-- ==== Sys2Proof/Word.lean ====
section
/-! DEFINITION. Word types, and the three values a grid module can hold (spec/10_state.md R35). -/
namespace Sys2Proof

/-- An 8-bit value: an operand field, a codeword, a GF(256) element (R130, R71). -/
abbrev Byte := BitVec 8

/-- A 32-bit value: a command word, `RES`, a host register (R130, R25, R101). -/
abbrev Word := BitVec 32

/-- One module of the grid, the tagged value `Unset | Function(dark) | Data(dark)` (R35). -/
inductive Module where
  | unset
  | function (dark : Bool)
  | data (dark : Bool)
deriving DecidableEq, Repr, Inhabited

end Sys2Proof
end

