-- ==== Sys2Proof/Syntax.lean ====
section
/-! DEFINITION. The command set QRCORE-CMD-1: one constructor per row of spec/opcode_table.json (spec/30_encoding.md
R135), operands in assembler order (R140). -/
namespace Sys2Proof

/-- The 54 commands. Operands are the fields `f2`, `f1`, `f0` (8 bits each) or `h` (16 bits) of the command word. -/
inductive Instr where
  -- control (spec/40_control.md)
  | nop
  | sreset
  | cfgSym (ver ecl me : Byte)
  -- GF(256) (spec/41_gf256.md)
  | gfMul (a b : Byte)
  | gfExp (e : Byte)
  | gfLog (a : Byte)
  | gfGen (r j : Byte)
  -- packer (spec/42_bitstream.md)
  | bsHead (count : BitVec 16)
  | bsNum3 (c2 c1 c0 : Byte)
  | bsNum2 (c1 c0 : Byte)
  | bsNum1 (c0 : Byte)
  | bsAn2 (a b : Byte)
  | bsAn1 (a : Byte)
  | bsByte (b : Byte)
  | bsKanji (b1 b0 : Byte)
  | bsTerm
  | bsAlign
  | bsPad
  | bsFinish
  | bsGet (i : BitVec 16)
  | bsGetb (i : BitVec 16)
  -- Reed-Solomon (spec/43_reed_solomon.md)
  | rsCfg (k r : Byte)
  | rsData (d : Byte)
  | rsStep
  | rsRun
  | rsGet (i : Byte)
  | synClr (r : Byte)
  | synIn (b : Byte)
  | synGet (j : Byte)
  | synOk
  | eccRun
  | blkGet (b i : Byte)
  | cwGet (i : BitVec 16)
  -- matrix builder (spec/44_matrix_builder.md)
  | mxInit
  | mxFinder
  | mxTiming
  | mxAlign
  | mxReserve
  | mxFunc
  | mxGet (row col : Byte)
  | mxPix (row col : Byte)
  -- placer (spec/45_data_placer.md)
  | plStart
  | plNext
  | plBit
  | plRun
  -- masks (spec/46_mask_evaluator.md)
  | mkApply (m : Byte)
  | mkPen (k : Byte)
  | mkSelect
  | mkBit (m row col : Byte)
  | mkTrial (m : Byte)
  -- metadata (spec/47_metadata.md)
  | fmtWord (e m : Byte)
  | verWord (v : Byte)
  | mdFmt (m : Byte)
  | mdVer
deriving DecidableEq, Repr

end Sys2Proof
end

