-- ==== Sys2Proof/WellFormed.lean ====
section
/-! DEFINITION. Which commands have a command word. Operand fields are as wide as the word's fields, so the one check
is the five reserved bits inside the operand `me` of `CFG_SYM` (spec/30_encoding.md R137). -/
namespace Sys2Proof

/-- The operands leave every reserved bit 0: `me[7:3] = 0` for `CFG_SYM`, nothing to check for the others (R137). -/
def Instr.wellFormed : Instr → Bool
  | .cfgSym _ _ me => me.toNat < 8
  | .nop | .sreset => true
  | .gfMul _ _ | .gfExp _ | .gfLog _ | .gfGen _ _ => true
  | .bsHead _ | .bsNum3 _ _ _ | .bsNum2 _ _ | .bsNum1 _ | .bsAn2 _ _ | .bsAn1 _ | .bsByte _ | .bsKanji _ _ => true
  | .bsTerm | .bsAlign | .bsPad | .bsFinish | .bsGet _ | .bsGetb _ => true
  | .rsCfg _ _ | .rsData _ | .rsStep | .rsRun | .rsGet _ => true
  | .synClr _ | .synIn _ | .synGet _ | .synOk | .eccRun | .blkGet _ _ | .cwGet _ => true
  | .mxInit | .mxFinder | .mxTiming | .mxAlign | .mxReserve | .mxFunc | .mxGet _ _ | .mxPix _ _ => true
  | .plStart | .plNext | .plBit | .plRun => true
  | .mkApply _ | .mkPen _ | .mkSelect | .mkBit _ _ _ | .mkTrial _ => true
  | .fmtWord _ _ | .verWord _ | .mdFmt _ | .mdVer => true

end Sys2Proof
end

