-- ==== Sys2Proof/Decode.lean ====
section
/-! DEFINITION. The command word: its fields, the decoder, and the encoder, from the formats and the opcode map of
spec/30_encoding.md (R130, R131, R135 to R137). -/
namespace Sys2Proof

/-- The opcode field `op = w[31:24]` (R130). -/
def opField (w : Word) : Byte := w.extractLsb' 24 8

/-- Operand field `f2 = w[23:16]` (R130). -/
def f2Field (w : Word) : Byte := w.extractLsb' 16 8

/-- Operand field `f1 = w[15:8]` (R130). -/
def f1Field (w : Word) : Byte := w.extractLsb' 8 8

/-- Operand field `f0 = w[7:0]` (R130). -/
def f0Field (w : Word) : Byte := w.extractLsb' 0 8

/-- The half-word operand `h = w[15:0]` (R130). -/
def hField (w : Word) : BitVec 16 := w.extractLsb' 0 16

/-- Why a word is no command: both are reported as `IllegalCommand` (R132). -/
inductive DecodeReject where
  | unassignedOpcode   -- R136
  | reservedBits       -- R137
deriving DecidableEq, Repr

/-- Format Z: no operand, `w[23:0]` must be 0 (R131). -/
def decodeZ (w : Word) (i : Instr) : Except DecodeReject Instr :=
  if w &&& 0x00FFFFFF#32 = 0#32 then .ok i else .error .reservedBits

/-- Format C1: operand `f0`, `w[23:8]` must be 0 (R131). -/
def decodeC1 (w : Word) (k : Byte → Instr) : Except DecodeReject Instr :=
  if w &&& 0x00FFFF00#32 = 0#32 then .ok (k (f0Field w)) else .error .reservedBits

/-- Format C2: operands `f1`, `f0`, `w[23:16]` must be 0 (R131). -/
def decodeC2 (w : Word) (k : Byte → Byte → Instr) : Except DecodeReject Instr :=
  if w &&& 0x00FF0000#32 = 0#32 then .ok (k (f1Field w) (f0Field w)) else .error .reservedBits

/-- Format C3: operands `f2`, `f1`, `f0`, no reserved bit (R131). -/
def decodeC3 (w : Word) (k : Byte → Byte → Byte → Instr) : Except DecodeReject Instr :=
  .ok (k (f2Field w) (f1Field w) (f0Field w))

/-- Format H: operand `h`, `w[23:16]` must be 0 (R131). -/
def decodeH (w : Word) (k : BitVec 16 → Instr) : Except DecodeReject Instr :=
  if w &&& 0x00FF0000#32 = 0#32 then .ok (k (hField w)) else .error .reservedBits

/-- `CFG_SYM`: format C3 with the five more reserved bits `w[7:3]` (R131, R137). -/
def decodeCfgSym (w : Word) : Except DecodeReject Instr :=
  if w &&& 0x000000F8#32 = 0#32 then decodeC3 w .cfgSym else .error .reservedBits

/-- Steps 2 and 3 of `issue(w)`: the opcode, then the reserved bits of its format (R132); the opcode map is R135. -/
def decode (w : Word) : Except DecodeReject Instr :=
  match opField w with
  | 0x00#8 => decodeZ w .nop
  | 0x01#8 => decodeZ w .sreset
  | 0x02#8 => decodeCfgSym w
  | 0x10#8 => decodeC2 w .gfMul
  | 0x11#8 => decodeC1 w .gfExp
  | 0x12#8 => decodeC1 w .gfLog
  | 0x13#8 => decodeC2 w .gfGen
  | 0x20#8 => decodeH w .bsHead
  | 0x21#8 => decodeC3 w .bsNum3
  | 0x22#8 => decodeC2 w .bsNum2
  | 0x23#8 => decodeC1 w .bsNum1
  | 0x24#8 => decodeC2 w .bsAn2
  | 0x25#8 => decodeC1 w .bsAn1
  | 0x26#8 => decodeC1 w .bsByte
  | 0x27#8 => decodeC2 w .bsKanji
  | 0x28#8 => decodeZ w .bsTerm
  | 0x29#8 => decodeZ w .bsAlign
  | 0x2A#8 => decodeZ w .bsPad
  | 0x2B#8 => decodeZ w .bsFinish
  | 0x2C#8 => decodeH w .bsGet
  | 0x2D#8 => decodeH w .bsGetb
  | 0x30#8 => decodeC2 w .rsCfg
  | 0x31#8 => decodeC1 w .rsData
  | 0x32#8 => decodeZ w .rsStep
  | 0x33#8 => decodeZ w .rsRun
  | 0x34#8 => decodeC1 w .rsGet
  | 0x35#8 => decodeC1 w .synClr
  | 0x36#8 => decodeC1 w .synIn
  | 0x37#8 => decodeC1 w .synGet
  | 0x38#8 => decodeZ w .synOk
  | 0x39#8 => decodeZ w .eccRun
  | 0x3A#8 => decodeC2 w .blkGet
  | 0x3B#8 => decodeH w .cwGet
  | 0x40#8 => decodeZ w .mxInit
  | 0x41#8 => decodeZ w .mxFinder
  | 0x42#8 => decodeZ w .mxTiming
  | 0x43#8 => decodeZ w .mxAlign
  | 0x44#8 => decodeZ w .mxReserve
  | 0x45#8 => decodeZ w .mxFunc
  | 0x46#8 => decodeC2 w .mxGet
  | 0x47#8 => decodeC2 w .mxPix
  | 0x50#8 => decodeZ w .plStart
  | 0x51#8 => decodeZ w .plNext
  | 0x52#8 => decodeZ w .plBit
  | 0x53#8 => decodeZ w .plRun
  | 0x60#8 => decodeC1 w .mkApply
  | 0x61#8 => decodeC1 w .mkPen
  | 0x62#8 => decodeZ w .mkSelect
  | 0x63#8 => decodeC3 w .mkBit
  | 0x64#8 => decodeC1 w .mkTrial
  | 0x70#8 => decodeC2 w .fmtWord
  | 0x71#8 => decodeC1 w .verWord
  | 0x72#8 => decodeC1 w .mdFmt
  | 0x73#8 => decodeZ w .mdVer
  | _ => .error .unassignedOpcode

/-- The word with the four byte fields given (R130). -/
def fieldsWord (op f2 f1 f0 : Byte) : Word := op ++ f2 ++ f1 ++ f0

/-- The word of a format H command: `f2` is 0 and `h = {f1, f0}` (R130, R131). -/
def halfWord (op : Byte) (h : BitVec 16) : Word := op ++ 0#8 ++ h

/-- The command word of a command (R131, R135, R140). -/
def encode : Instr → Word
  | .nop => fieldsWord 0x00 0 0 0
  | .sreset => fieldsWord 0x01 0 0 0
  | .cfgSym ver ecl me => fieldsWord 0x02 ver ecl me
  | .gfMul a b => fieldsWord 0x10 0 a b
  | .gfExp e => fieldsWord 0x11 0 0 e
  | .gfLog a => fieldsWord 0x12 0 0 a
  | .gfGen r j => fieldsWord 0x13 0 r j
  | .bsHead count => halfWord 0x20 count
  | .bsNum3 c2 c1 c0 => fieldsWord 0x21 c2 c1 c0
  | .bsNum2 c1 c0 => fieldsWord 0x22 0 c1 c0
  | .bsNum1 c0 => fieldsWord 0x23 0 0 c0
  | .bsAn2 a b => fieldsWord 0x24 0 a b
  | .bsAn1 a => fieldsWord 0x25 0 0 a
  | .bsByte b => fieldsWord 0x26 0 0 b
  | .bsKanji b1 b0 => fieldsWord 0x27 0 b1 b0
  | .bsTerm => fieldsWord 0x28 0 0 0
  | .bsAlign => fieldsWord 0x29 0 0 0
  | .bsPad => fieldsWord 0x2A 0 0 0
  | .bsFinish => fieldsWord 0x2B 0 0 0
  | .bsGet i => halfWord 0x2C i
  | .bsGetb i => halfWord 0x2D i
  | .rsCfg k r => fieldsWord 0x30 0 k r
  | .rsData d => fieldsWord 0x31 0 0 d
  | .rsStep => fieldsWord 0x32 0 0 0
  | .rsRun => fieldsWord 0x33 0 0 0
  | .rsGet i => fieldsWord 0x34 0 0 i
  | .synClr r => fieldsWord 0x35 0 0 r
  | .synIn b => fieldsWord 0x36 0 0 b
  | .synGet j => fieldsWord 0x37 0 0 j
  | .synOk => fieldsWord 0x38 0 0 0
  | .eccRun => fieldsWord 0x39 0 0 0
  | .blkGet b i => fieldsWord 0x3A 0 b i
  | .cwGet i => halfWord 0x3B i
  | .mxInit => fieldsWord 0x40 0 0 0
  | .mxFinder => fieldsWord 0x41 0 0 0
  | .mxTiming => fieldsWord 0x42 0 0 0
  | .mxAlign => fieldsWord 0x43 0 0 0
  | .mxReserve => fieldsWord 0x44 0 0 0
  | .mxFunc => fieldsWord 0x45 0 0 0
  | .mxGet row col => fieldsWord 0x46 0 row col
  | .mxPix row col => fieldsWord 0x47 0 row col
  | .plStart => fieldsWord 0x50 0 0 0
  | .plNext => fieldsWord 0x51 0 0 0
  | .plBit => fieldsWord 0x52 0 0 0
  | .plRun => fieldsWord 0x53 0 0 0
  | .mkApply m => fieldsWord 0x60 0 0 m
  | .mkPen k => fieldsWord 0x61 0 0 k
  | .mkSelect => fieldsWord 0x62 0 0 0
  | .mkBit m row col => fieldsWord 0x63 m row col
  | .mkTrial m => fieldsWord 0x64 0 0 m
  | .fmtWord e m => fieldsWord 0x70 0 e m
  | .verWord v => fieldsWord 0x71 0 0 v
  | .mdFmt m => fieldsWord 0x72 0 0 m
  | .mdVer => fieldsWord 0x73 0 0 0

/-- The bits of an instruction as spec/opcode_table.json numbers them: `w` cut to `nbits`, the bits above are 0.
Every row has 32 bits, so this is the command word itself (R130, R134). -/
def tableWord (nbits w : Nat) : Word := BitVec.ofNat 32 (w % 2 ^ nbits)

/-- What the decoder reads from an instruction whose bits are `w`. -/
def decodeTableWord (nbits w : Nat) : Option Instr := (decode (tableWord nbits w)).toOption

end Sys2Proof
end

