-- ==== Sys2Proof/Config.lean ====
section
/-! DEFINITION. The implementation parameters of spec/00_scope.md R6, and the free values: constants without a body
that stand where the spec gives no value (notes/assumptions/4.md, notes/assumptions/5.md). -/
namespace Sys2Proof

/-- One record of `ROM_VSPEC`: total codewords, parity bytes per block, then block count and data bytes per block
of the two groups (R85). -/
structure VSpec where
  total : Nat
  r : Nat
  n1 : Nat
  d1 : Nat
  n2 : Nat
  d2 : Nat
deriving DecidableEq, Repr, Inhabited

/-- How `darkPercent` is computed in penalty N4 (R6, R330). -/
inductive N4Mode where
  | exact
  | floorPercent
deriving DecidableEq, Repr, Inhabited

/-- The five parameters a model takes (R6). The lists hold one entry per version, version 1 first; an entry of
`vspec` holds one record per level, in the order L, M, Q, H. -/
structure Params where
  vspec : List (List VSpec)
  align : List (List Nat)
  rembits : List Nat
  n3OutsideLight : Bool
  n4Mode : N4Mode
deriving DecidableEq, Repr

/-- `BITBUF[i]` where nothing has been written since reset (R28, R46: unspecified). -/
opaque Config.unwrittenBit : Nat → Bool

/-- `RSBUF[i]` where nothing has been written since reset (R31, R46). -/
opaque Config.unwrittenRsbuf : Nat → Byte

/-- `SYN[j]` where nothing has been written since reset (R32, R46). -/
opaque Config.unwrittenSyn : Nat → Byte

/-- `PAR[b][j]` where nothing has been written since reset (R33, R46). -/
opaque Config.unwrittenPar : Nat → Nat → Byte

/-- `CW[n]` where nothing has been written since reset (R34, R46). -/
opaque Config.unwrittenCw : Nat → Byte

/-- `GRID[r][c]` where nothing has been written since reset (R35, R46). -/
opaque Config.unwrittenModule : Nat → Nat → Module

/-- `ROM_VSPEC[v][e]` for a version the table has no record for (R86: defined only when `VER != 0`). -/
opaque Config.absentVSpec : Nat → Nat → VSpec

/-- `ROM_ALIGN[v]` for a version the table has no list for (R89). -/
opaque Config.absentAlign : Nat → List Nat

/-- `ROM_REMBITS[v]` for a version the table has no number for (R90). -/
opaque Config.absentRembits : Nat → Nat

/-- `LOG[0]`, which does not exist and which no rule reads (R73). -/
opaque Config.logOfZero : Nat

/-- `GEN[r][j]` where the table has no coefficient: `r` not in `VALID_R` or `j > r` (R75). -/
opaque Config.absentCoefficient : Nat → Nat → Byte

/-- `S[i]` past the end of the placer's sequence (R300 defines `S[0 .. SLEN-1]`). -/
opaque Config.absentStreamBit : Nat → Bool

end Sys2Proof
end

