-- ==== Sys2Proof/Machine/Tables.lean ====
section
/-! DEFINITION. The read-only tables of spec/11_rom_tables.md. The fixed ones are constants; the default contents of
the three parameter tables stand in `defaultParams` (R70). The spec marks most values "from general knowledge, not in
source"; they are followed as it states them (notes/assumptions/14.md). -/
namespace Sys2Proof.Machine

/-- `EXP[0..255]`, the powers of `0x02` modulo `0x11D` (R72). -/
def expTable : List Byte :=
    [0x01, 0x02, 0x04, 0x08, 0x10, 0x20, 0x40, 0x80, 0x1D, 0x3A, 0x74, 0xE8, 0xCD, 0x87, 0x13, 0x26]
  ++ [0x4C, 0x98, 0x2D, 0x5A, 0xB4, 0x75, 0xEA, 0xC9, 0x8F, 0x03, 0x06, 0x0C, 0x18, 0x30, 0x60, 0xC0]
  ++ [0x9D, 0x27, 0x4E, 0x9C, 0x25, 0x4A, 0x94, 0x35, 0x6A, 0xD4, 0xB5, 0x77, 0xEE, 0xC1, 0x9F, 0x23]
  ++ [0x46, 0x8C, 0x05, 0x0A, 0x14, 0x28, 0x50, 0xA0, 0x5D, 0xBA, 0x69, 0xD2, 0xB9, 0x6F, 0xDE, 0xA1]
  ++ [0x5F, 0xBE, 0x61, 0xC2, 0x99, 0x2F, 0x5E, 0xBC, 0x65, 0xCA, 0x89, 0x0F, 0x1E, 0x3C, 0x78, 0xF0]
  ++ [0xFD, 0xE7, 0xD3, 0xBB, 0x6B, 0xD6, 0xB1, 0x7F, 0xFE, 0xE1, 0xDF, 0xA3, 0x5B, 0xB6, 0x71, 0xE2]
  ++ [0xD9, 0xAF, 0x43, 0x86, 0x11, 0x22, 0x44, 0x88, 0x0D, 0x1A, 0x34, 0x68, 0xD0, 0xBD, 0x67, 0xCE]
  ++ [0x81, 0x1F, 0x3E, 0x7C, 0xF8, 0xED, 0xC7, 0x93, 0x3B, 0x76, 0xEC, 0xC5, 0x97, 0x33, 0x66, 0xCC]
  ++ [0x85, 0x17, 0x2E, 0x5C, 0xB8, 0x6D, 0xDA, 0xA9, 0x4F, 0x9E, 0x21, 0x42, 0x84, 0x15, 0x2A, 0x54]
  ++ [0xA8, 0x4D, 0x9A, 0x29, 0x52, 0xA4, 0x55, 0xAA, 0x49, 0x92, 0x39, 0x72, 0xE4, 0xD5, 0xB7, 0x73]
  ++ [0xE6, 0xD1, 0xBF, 0x63, 0xC6, 0x91, 0x3F, 0x7E, 0xFC, 0xE5, 0xD7, 0xB3, 0x7B, 0xF6, 0xF1, 0xFF]
  ++ [0xE3, 0xDB, 0xAB, 0x4B, 0x96, 0x31, 0x62, 0xC4, 0x95, 0x37, 0x6E, 0xDC, 0xA5, 0x57, 0xAE, 0x41]
  ++ [0x82, 0x19, 0x32, 0x64, 0xC8, 0x8D, 0x07, 0x0E, 0x1C, 0x38, 0x70, 0xE0, 0xDD, 0xA7, 0x53, 0xA6]
  ++ [0x51, 0xA2, 0x59, 0xB2, 0x79, 0xF2, 0xF9, 0xEF, 0xC3, 0x9B, 0x2B, 0x56, 0xAC, 0x45, 0x8A, 0x09]
  ++ [0x12, 0x24, 0x48, 0x90, 0x3D, 0x7A, 0xF4, 0xF5, 0xF7, 0xF3, 0xFB, 0xEB, 0xCB, 0x8B, 0x0B, 0x16]
  ++ [0x2C, 0x58, 0xB0, 0x7D, 0xFA, 0xE9, 0xCF, 0x83, 0x1B, 0x36, 0x6C, 0xD8, 0xAD, 0x47, 0x8E, 0x01]

/-- `EXP[e]` (R72). -/
def gfExpOf (e : Nat) : Byte := expTable.getD e 0

/-- `LOG[1..255]`, the entry of `a` at position `a - 1` (R73). -/
def logTable : List Nat :=
    [0, 1, 25, 2, 50, 26, 198, 3, 223, 51, 238, 27, 104, 199, 75]
  ++ [4, 100, 224, 14, 52, 141, 239, 129, 28, 193, 105, 248, 200, 8, 76]
  ++ [113, 5, 138, 101, 47, 225, 36, 15, 33, 53, 147, 142, 218, 240, 18]
  ++ [130, 69, 29, 181, 194, 125, 106, 39, 249, 185, 201, 154, 9, 120, 77]
  ++ [228, 114, 166, 6, 191, 139, 98, 102, 221, 48, 253, 226, 152, 37, 179]
  ++ [16, 145, 34, 136, 54, 208, 148, 206, 143, 150, 219, 189, 241, 210, 19]
  ++ [92, 131, 56, 70, 64, 30, 66, 182, 163, 195, 72, 126, 110, 107, 58]
  ++ [40, 84, 250, 133, 186, 61, 202, 94, 155, 159, 10, 21, 121, 43, 78]
  ++ [212, 229, 172, 115, 243, 167, 87, 7, 112, 192, 247, 140, 128, 99, 13]
  ++ [103, 74, 222, 237, 49, 197, 254, 24, 227, 165, 153, 119, 38, 184, 180]
  ++ [124, 17, 68, 146, 217, 35, 32, 137, 46, 55, 63, 209, 91, 149, 188]
  ++ [207, 205, 144, 135, 151, 178, 220, 252, 190, 97, 242, 86, 211, 171, 20]
  ++ [42, 93, 158, 132, 60, 57, 83, 71, 109, 65, 162, 31, 45, 67, 216]
  ++ [183, 123, 164, 118, 196, 23, 73, 236, 127, 12, 111, 246, 108, 161, 59]
  ++ [82, 41, 157, 85, 170, 251, 96, 134, 177, 187, 204, 62, 90, 203, 89]
  ++ [95, 176, 156, 169, 160, 81, 11, 245, 22, 235, 122, 117, 44, 215, 79]
  ++ [174, 213, 233, 230, 231, 173, 232, 116, 214, 244, 234, 168, 80, 88, 175]

/-- `LOG[a]`; `LOG[0]` does not exist (R73, notes/assumptions/5.md). -/
def gfLogOf (a : Byte) : Nat :=
  if a = 0 then Config.logOfZero else logTable.getD (a.toNat - 1) 0

/-- `VALID_R`, the valid parity counts (R74). -/
def validR : List Nat := [7, 10, 13, 15, 16, 17, 18, 20, 22, 24, 26, 28, 30]

/-- `GEN[r]` for every `r` in `VALID_R`, highest power first (R75, R76). -/
def genTable : List (Nat × List Byte) :=
    [(7, [0x01, 0x7F, 0x7A, 0x9A, 0xA4, 0x0B, 0x44, 0x75])]
  ++ [(10, [0x01, 0xD8, 0xC2, 0x9F, 0x6F, 0xC7, 0x5E, 0x5F, 0x71, 0x9D, 0xC1])]
  ++ [(13, [0x01, 0x89, 0x49, 0xE3, 0x11, 0xB1, 0x11, 0x34, 0x0D, 0x2E, 0x2B, 0x53, 0x84, 0x78])]
  ++ [(15, [0x01, 0x1D, 0xC4, 0x6F, 0xA3, 0x70, 0x4A, 0x0A, 0x69, 0x69, 0x8B, 0x84, 0x97, 0x20, 0x86, 0x1A])]
  ++ [(16, [0x01, 0x3B, 0x0D, 0x68, 0xBD, 0x44, 0xD1, 0x1E, 0x08, 0xA3, 0x41, 0x29, 0xE5, 0x62, 0x32, 0x24, 0x3B])]
  ++ [(17, [0x01, 0x77, 0x42, 0x53, 0x78, 0x77, 0x16, 0xC5, 0x53, 0xF9, 0x29, 0x8F, 0x86, 0x55, 0x35, 0x7D, 0x63, 0x4F])]
  ++ [(18, [0x01, 0xEF, 0xFB, 0xB7, 0x71, 0x95, 0xAF, 0xC7, 0xD7, 0xF0, 0xDC, 0x49, 0x52, 0xAD, 0x4B, 0x20, 0x43, 0xD9, 0x92])]
  ++ [(20, [0x01, 0x98, 0xB9, 0xF0, 0x05, 0x6F, 0x63, 0x06, 0xDC, 0x70, 0x96, 0x45, 0x24, 0xBB, 0x16, 0xE4, 0xC6, 0x79, 0x79, 0xA5, 0xAE])]
  ++ [(22, [0x01, 0x59, 0xB3, 0x83, 0xB0, 0xB6, 0xF4, 0x13, 0xBD, 0x45, 0x28, 0x1C, 0x89, 0x1D, 0x7B, 0x43, 0xFD, 0x56, 0xDA, 0xE6, 0x1A, 0x91, 0xF5])]
  ++ [(24, [0x01, 0x7A, 0x76, 0xA9, 0x46, 0xB2, 0xED, 0xD8, 0x66, 0x73, 0x96, 0xE5, 0x49, 0x82, 0x48, 0x3D, 0x2B, 0xCE, 0x01, 0xED, 0xF7, 0x7F, 0xD9, 0x90, 0x75])]
  ++ [(26, [0x01, 0xF6, 0x33, 0xB7, 0x04, 0x88, 0x62, 0xC7, 0x98, 0x4D, 0x38, 0xCE, 0x18, 0x91, 0x28, 0xD1, 0x75, 0xE9, 0x2A, 0x87, 0x44, 0x46, 0x90, 0x92, 0x4D, 0x2B, 0x5E])]
  ++ [(28, [0x01, 0xFC, 0x09, 0x1C, 0x0D, 0x12, 0xFB, 0xD0, 0x96, 0x67, 0xAE, 0x64, 0x29, 0xA7, 0x0C, 0xF7, 0x38, 0x75, 0x77, 0xE9, 0x7F, 0xB5, 0x64, 0x79, 0x93, 0xB0, 0x4A, 0x3A, 0xC5])]
  ++ [(30, [0x01, 0xD4, 0xF6, 0x4D, 0x49, 0xC3, 0xC0, 0x4B, 0x62, 0x05, 0x46, 0x67, 0xB1, 0x16, 0xD9, 0x8A, 0x33, 0xB5, 0xF6, 0x48, 0x19, 0x12, 0x2E, 0xE4, 0x4A, 0xD8, 0xC3, 0x0B, 0x6A, 0x82, 0x96])]

/-- `GEN[r][j]`, the coefficient of `x^(r-j)` (R75). -/
def gfGenOf (r j : Nat) : Byte :=
  match genTable.lookup r with
  | some cs => cs[j]?.getD (Config.absentCoefficient r j)
  | none => Config.absentCoefficient r j

/-- Default contents of `ROM_VSPEC` (R88), records `total, r, n1, d1, n2, d2` in the order L, M, Q, H. DESIGN CHOICE
(notes/assumptions/18.md): `d2` of a record with one group (`n2 = 0`) is 0; the table prints none there. -/
def defaultVSpec : List (List VSpec) :=
    [[⟨26, 7, 1, 19, 0, 0⟩, ⟨26, 10, 1, 16, 0, 0⟩, ⟨26, 13, 1, 13, 0, 0⟩, ⟨26, 17, 1, 9, 0, 0⟩]]
  ++ [[⟨44, 10, 1, 34, 0, 0⟩, ⟨44, 16, 1, 28, 0, 0⟩, ⟨44, 22, 1, 22, 0, 0⟩, ⟨44, 28, 1, 16, 0, 0⟩]]
  ++ [[⟨70, 15, 1, 55, 0, 0⟩, ⟨70, 26, 1, 44, 0, 0⟩, ⟨70, 18, 2, 17, 0, 0⟩, ⟨70, 22, 2, 13, 0, 0⟩]]
  ++ [[⟨100, 20, 1, 80, 0, 0⟩, ⟨100, 18, 2, 32, 0, 0⟩, ⟨100, 26, 2, 24, 0, 0⟩, ⟨100, 16, 4, 9, 0, 0⟩]]
  ++ [[⟨134, 26, 1, 108, 0, 0⟩, ⟨134, 24, 2, 43, 0, 0⟩, ⟨134, 18, 2, 15, 2, 16⟩, ⟨134, 22, 2, 11, 2, 12⟩]]
  ++ [[⟨172, 18, 2, 68, 0, 0⟩, ⟨172, 16, 4, 27, 0, 0⟩, ⟨172, 24, 4, 19, 0, 0⟩, ⟨172, 28, 4, 15, 0, 0⟩]]
  ++ [[⟨196, 20, 2, 78, 0, 0⟩, ⟨196, 18, 4, 31, 0, 0⟩, ⟨196, 18, 2, 14, 4, 15⟩, ⟨196, 26, 4, 13, 1, 14⟩]]
  ++ [[⟨242, 24, 2, 97, 0, 0⟩, ⟨242, 22, 2, 38, 2, 39⟩, ⟨242, 22, 4, 18, 2, 19⟩, ⟨242, 26, 4, 14, 2, 15⟩]]
  ++ [[⟨292, 30, 2, 116, 0, 0⟩, ⟨292, 22, 3, 36, 2, 37⟩, ⟨292, 20, 4, 16, 4, 17⟩, ⟨292, 24, 4, 12, 4, 13⟩]]
  ++ [[⟨346, 18, 2, 68, 2, 69⟩, ⟨346, 26, 4, 43, 1, 44⟩, ⟨346, 24, 6, 19, 2, 20⟩, ⟨346, 28, 6, 15, 2, 16⟩]]
  ++ [[⟨404, 20, 4, 81, 0, 0⟩, ⟨404, 30, 1, 50, 4, 51⟩, ⟨404, 28, 4, 22, 4, 23⟩, ⟨404, 24, 3, 12, 8, 13⟩]]
  ++ [[⟨466, 24, 2, 92, 2, 93⟩, ⟨466, 22, 6, 36, 2, 37⟩, ⟨466, 26, 4, 20, 6, 21⟩, ⟨466, 28, 7, 14, 4, 15⟩]]
  ++ [[⟨532, 26, 4, 107, 0, 0⟩, ⟨532, 22, 8, 37, 1, 38⟩, ⟨532, 24, 8, 20, 4, 21⟩, ⟨532, 22, 12, 11, 4, 12⟩]]
  ++ [[⟨581, 30, 3, 115, 1, 116⟩, ⟨581, 24, 4, 40, 5, 41⟩, ⟨581, 20, 11, 16, 5, 17⟩, ⟨581, 24, 11, 12, 5, 13⟩]]
  ++ [[⟨655, 22, 5, 87, 1, 88⟩, ⟨655, 24, 5, 41, 5, 42⟩, ⟨655, 30, 5, 24, 7, 25⟩, ⟨655, 24, 11, 12, 7, 13⟩]]
  ++ [[⟨733, 24, 5, 98, 1, 99⟩, ⟨733, 28, 7, 45, 3, 46⟩, ⟨733, 24, 15, 19, 2, 20⟩, ⟨733, 30, 3, 15, 13, 16⟩]]
  ++ [[⟨815, 28, 1, 107, 5, 108⟩, ⟨815, 28, 10, 46, 1, 47⟩, ⟨815, 28, 1, 22, 15, 23⟩, ⟨815, 28, 2, 14, 17, 15⟩]]
  ++ [[⟨901, 30, 5, 120, 1, 121⟩, ⟨901, 26, 9, 43, 4, 44⟩, ⟨901, 28, 17, 22, 1, 23⟩, ⟨901, 28, 2, 14, 19, 15⟩]]
  ++ [[⟨991, 28, 3, 113, 4, 114⟩, ⟨991, 26, 3, 44, 11, 45⟩, ⟨991, 26, 17, 21, 4, 22⟩, ⟨991, 26, 9, 13, 16, 14⟩]]
  ++ [[⟨1085, 28, 3, 107, 5, 108⟩, ⟨1085, 26, 3, 41, 13, 42⟩, ⟨1085, 30, 15, 24, 5, 25⟩, ⟨1085, 28, 15, 15, 10, 16⟩]]
  ++ [[⟨1156, 28, 4, 116, 4, 117⟩, ⟨1156, 26, 17, 42, 0, 0⟩, ⟨1156, 28, 17, 22, 6, 23⟩, ⟨1156, 30, 19, 16, 6, 17⟩]]
  ++ [[⟨1258, 28, 2, 111, 7, 112⟩, ⟨1258, 28, 17, 46, 0, 0⟩, ⟨1258, 30, 7, 24, 16, 25⟩, ⟨1258, 24, 34, 13, 0, 0⟩]]
  ++ [[⟨1364, 30, 4, 121, 5, 122⟩, ⟨1364, 28, 4, 47, 14, 48⟩, ⟨1364, 30, 11, 24, 14, 25⟩, ⟨1364, 30, 16, 15, 14, 16⟩]]
  ++ [[⟨1474, 30, 6, 117, 4, 118⟩, ⟨1474, 28, 6, 45, 14, 46⟩, ⟨1474, 30, 11, 24, 16, 25⟩, ⟨1474, 30, 30, 16, 2, 17⟩]]
  ++ [[⟨1588, 26, 8, 106, 4, 107⟩, ⟨1588, 28, 8, 47, 13, 48⟩, ⟨1588, 30, 7, 24, 22, 25⟩, ⟨1588, 30, 22, 15, 13, 16⟩]]
  ++ [[⟨1706, 28, 10, 114, 2, 115⟩, ⟨1706, 28, 19, 46, 4, 47⟩, ⟨1706, 28, 28, 22, 6, 23⟩, ⟨1706, 30, 33, 16, 4, 17⟩]]
  ++ [[⟨1828, 30, 8, 122, 4, 123⟩, ⟨1828, 28, 22, 45, 3, 46⟩, ⟨1828, 30, 8, 23, 26, 24⟩, ⟨1828, 30, 12, 15, 28, 16⟩]]
  ++ [[⟨1921, 30, 3, 117, 10, 118⟩, ⟨1921, 28, 3, 45, 23, 46⟩, ⟨1921, 30, 4, 24, 31, 25⟩, ⟨1921, 30, 11, 15, 31, 16⟩]]
  ++ [[⟨2051, 30, 7, 116, 7, 117⟩, ⟨2051, 28, 21, 45, 7, 46⟩, ⟨2051, 30, 1, 23, 37, 24⟩, ⟨2051, 30, 19, 15, 26, 16⟩]]
  ++ [[⟨2185, 30, 5, 115, 10, 116⟩, ⟨2185, 28, 19, 47, 10, 48⟩, ⟨2185, 30, 15, 24, 25, 25⟩, ⟨2185, 30, 23, 15, 25, 16⟩]]
  ++ [[⟨2323, 30, 13, 115, 3, 116⟩, ⟨2323, 28, 2, 46, 29, 47⟩, ⟨2323, 30, 42, 24, 1, 25⟩, ⟨2323, 30, 23, 15, 28, 16⟩]]
  ++ [[⟨2465, 30, 17, 115, 0, 0⟩, ⟨2465, 28, 10, 46, 23, 47⟩, ⟨2465, 30, 10, 24, 35, 25⟩, ⟨2465, 30, 19, 15, 35, 16⟩]]
  ++ [[⟨2611, 30, 17, 115, 1, 116⟩, ⟨2611, 28, 14, 46, 21, 47⟩, ⟨2611, 30, 29, 24, 19, 25⟩, ⟨2611, 30, 11, 15, 46, 16⟩]]
  ++ [[⟨2761, 30, 13, 115, 6, 116⟩, ⟨2761, 28, 14, 46, 23, 47⟩, ⟨2761, 30, 44, 24, 7, 25⟩, ⟨2761, 30, 59, 16, 1, 17⟩]]
  ++ [[⟨2876, 30, 12, 121, 7, 122⟩, ⟨2876, 28, 12, 47, 26, 48⟩, ⟨2876, 30, 39, 24, 14, 25⟩, ⟨2876, 30, 22, 15, 41, 16⟩]]
  ++ [[⟨3034, 30, 6, 121, 14, 122⟩, ⟨3034, 28, 6, 47, 34, 48⟩, ⟨3034, 30, 46, 24, 10, 25⟩, ⟨3034, 30, 2, 15, 64, 16⟩]]
  ++ [[⟨3196, 30, 17, 122, 4, 123⟩, ⟨3196, 28, 29, 46, 14, 47⟩, ⟨3196, 30, 49, 24, 10, 25⟩, ⟨3196, 30, 24, 15, 46, 16⟩]]
  ++ [[⟨3362, 30, 4, 122, 18, 123⟩, ⟨3362, 28, 13, 46, 32, 47⟩, ⟨3362, 30, 48, 24, 14, 25⟩, ⟨3362, 30, 42, 15, 32, 16⟩]]
  ++ [[⟨3532, 30, 20, 117, 4, 118⟩, ⟨3532, 28, 40, 47, 7, 48⟩, ⟨3532, 30, 43, 24, 22, 25⟩, ⟨3532, 30, 10, 15, 67, 16⟩]]
  ++ [[⟨3706, 30, 19, 118, 6, 119⟩, ⟨3706, 28, 18, 47, 31, 48⟩, ⟨3706, 30, 34, 24, 34, 25⟩, ⟨3706, 30, 20, 15, 61, 16⟩]]

/-- Default contents of `ROM_ALIGN` (R89). -/
def defaultAlign : List (List Nat) :=
    [[], [6, 18], [6, 22], [6, 26], [6, 30]]
  ++ [[6, 34], [6, 22, 38], [6, 24, 42], [6, 26, 46], [6, 28, 50]]
  ++ [[6, 30, 54], [6, 32, 58], [6, 34, 62], [6, 26, 46, 66], [6, 26, 48, 70]]
  ++ [[6, 26, 50, 74], [6, 30, 54, 78], [6, 30, 56, 82], [6, 30, 58, 86], [6, 34, 62, 90]]
  ++ [[6, 28, 50, 72, 94], [6, 26, 50, 74, 98], [6, 30, 54, 78, 102], [6, 28, 54, 80, 106], [6, 32, 58, 84, 110]]
  ++ [[6, 30, 58, 86, 114], [6, 34, 62, 90, 118], [6, 26, 50, 74, 98, 122], [6, 30, 54, 78, 102, 126], [6, 26, 52, 78, 104, 130]]
  ++ [[6, 30, 56, 82, 108, 134], [6, 34, 60, 86, 112, 138], [6, 30, 58, 86, 114, 142], [6, 34, 62, 90, 118, 146], [6, 30, 54, 78, 102, 126, 150]]
  ++ [[6, 24, 50, 76, 102, 128, 154], [6, 28, 54, 80, 106, 132, 158], [6, 32, 58, 84, 110, 136, 162], [6, 26, 54, 82, 110, 138, 166], [6, 30, 58, 86, 114, 142, 170]]

/-- Default contents of `ROM_REMBITS` (R90): 7 for versions 2 to 6, 3 for 14 to 20 and 28 to 34, 4 for 21 to 27. -/
def defaultRembits : List Nat :=
  [0] ++ List.replicate 5 7 ++ List.replicate 7 0 ++ List.replicate 7 3 ++ List.replicate 7 4
    ++ List.replicate 7 3 ++ List.replicate 6 0

/-- The parameters at their defaults (R6). -/
def defaultParams : Params where
  vspec := defaultVSpec
  align := defaultAlign
  rembits := defaultRembits
  n3OutsideLight := false
  n4Mode := .exact

end Sys2Proof.Machine
end

