-- ==== Sys2Proof/Machine/State.lean ====
section
/-! DEFINITION. The architectural state of spec/10_state.md R45 as plain data, the host's accesses, the reasons a step
can stop, and the state after reset (spec/70_reset_and_hazards.md R400). -/
namespace Sys2Proof.Machine

/-- The values `PHASE` takes (R23); 12 to 14 are never taken (notes/assumptions/13.md). -/
inductive Phase where
  | idle
  | configured
  | payload
  | terminated
  | aligned
  | packed
  | coded
  | matrix
  | placing
  | placed
  | selected
  | done
  | error
deriving DecidableEq, Repr, Inhabited

/-- The values `ERR` takes (R370); 10 to 15 are never written. -/
inductive ErrCode where
  | none
  | invalidMode
  | capacityExceeded
  | invalidShiftJIS
  | unsupportedVersion
  | unsupportedECLevel
  | invariantViolation
  | illegalCommand
  | sequenceError
  | operandRange
deriving DecidableEq, Repr, Inhabited

/-- `ECL`, the error-correction level (R26). -/
inductive Level where
  | L
  | M
  | Q
  | H
deriving DecidableEq, Repr, Inhabited

/-- `MODE`, the encoding mode (R26). -/
inductive Mode where
  | numeric
  | alphanumeric
  | byte
  | kanji
deriving DecidableEq, Repr, Inhabited

/-- `ENC`, the byte encoding (R26). -/
inductive Encoding where
  | latin1
  | utf8
deriving DecidableEq, Repr, Inhabited

/-- `PL_DIR`: 0 up, 1 down (R37). -/
inductive Dir where
  | up
  | down
deriving DecidableEq, Repr, Inhabited

/-- `PL_SIDE`: 0 right column of the pair, 1 left column (R37). -/
inductive Side where
  | right
  | left
deriving DecidableEq, Repr, Inhabited

/-- One access of the host to QRCORE: a write or read of `bytes` bytes at a byte offset of the register map (R10,
R101, R103), or the hard reset input (R400). -/
inductive HostAccess where
  | write (off bytes : Nat) (v : Word)
  | read (off bytes : Nat)
  | hardReset
deriving DecidableEq, Repr

/-- Everything a later command can depend on (R44, R45), under the spec's names. The memories hold the elements
written so far in index order; an element nothing has written since reset is absent (R46, notes/assumptions/4.md).
The last three fields are the model's own. -/
structure State where
  phase : Phase
  err : ErrCode
  errcmd : Word
  res : Word
  ver : BitVec 6
  ecl : Level
  mode : Mode
  enc : Encoding
  bitlen : BitVec 15
  bitbuf : List Bool
  decl : BitVec 16
  chars : BitVec 16
  tail : Bool
  rsK : BitVec 8
  rsR : BitVec 5
  rsFill : BitVec 8
  rsHead : BitVec 8
  rsbuf : List Byte
  synR : BitVec 5
  syn : List Byte
  par : List (List Byte)
  cw : List Byte
  cwlen : BitVec 12
  grid : List (List Module)
  fnmask : BitVec 4
  plRow : BitVec 8
  plColpair : BitVec 8
  plDir : Dir
  plSide : Side
  plDone : Bool
  bitpos : BitVec 15
  applied : Option (BitVec 3)
  bestmask : BitVec 3
  bestscore : Word
  trial : Vector Word 8
  -- the model's own: the parameters of R6, the host accesses not yet served, the words reads returned
  params : Params
  pending : List HostAccess
  replies : List Word
deriving DecidableEq, Repr

/-- Nothing in QRCORE stops the machine: an error is architectural state (R374), so there is no fault. -/
inductive Fault where
deriving DecidableEq, Repr

/-- Why a step has no meaning. -/
inductive Refusal where
  /-- An arm of `exec` without a meaning; no arm uses it. Safe: it claims nothing. -/
  | notModelled (mnemonic : String)
  /-- Raised by `hostAccess` on a register access that is not one aligned 32-bit word: the spec gives it no meaning
  and has a model refuse it (R103; 93_implementation_defined.md U2; notes/assumptions/10.md). Safe. -/
  | unsupportedAccess
deriving DecidableEq, Repr

/-- The state right after reset (R45, R400). The memories the spec leaves unspecified are absent; the model's own
fields are the defaults of R6 and no host access (notes/assumptions/1.md to 4.md). -/
def State.reset : State where
  phase := .idle
  err := .none
  errcmd := 0
  res := 0
  ver := 0
  ecl := .L
  mode := .numeric
  enc := .latin1
  bitlen := 0
  bitbuf := []
  decl := 0
  chars := 0
  tail := false
  rsK := 0
  rsR := 0
  rsFill := 0
  rsHead := 0
  rsbuf := []
  synR := 0
  syn := []
  par := []
  cw := []
  cwlen := 0
  grid := []
  fnmask := 0
  plRow := 0
  plColpair := 0
  plDir := .up
  plSide := .right
  plDone := false
  bitpos := 0
  applied := none
  bestmask := 0
  bestscore := 0
  trial := Vector.replicate 8 0
  params := defaultParams
  pending := []
  replies := []

end Sys2Proof.Machine
end

