-- ==== Sys2Proof/Machine/Ops.lean ====
section
/-! DEFINITION. Operations every family uses: element-indexed memories, values derived from the parameters, raising an
error and leaving it, and the frame every command runs in (spec/00_scope.md R11, spec/30_encoding.md R132,
spec/60_exceptions.md R374 to R376). -/
namespace Sys2Proof

/-! Values derived from a record of `ROM_VSPEC` (R86, R87). -/

/-- `NB = n1 + n2` (R86). -/
def VSpec.nb (x : VSpec) : Nat := x.n1 + x.n2

/-- `DATA_BYTES = n1*d1 + n2*d2` (R86). -/
def VSpec.dataBytes (x : VSpec) : Nat := x.n1 * x.d1 + x.n2 * x.d2

/-- `MAXD = max(d1, d2)` when `n2 > 0`, else `d1` (R86). -/
def VSpec.maxD (x : VSpec) : Nat := if x.n2 > 0 then max x.d1 x.d2 else x.d1

/-- `blk_len(b)` (R87). -/
def VSpec.blkLen (x : VSpec) (b : Nat) : Nat := if b < x.n1 then x.d1 else x.d2

/-- `blk_off(b)` (R87). -/
def VSpec.blkOff (x : VSpec) (b : Nat) : Nat := if b < x.n1 then b * x.d1 else x.n1 * x.d1 + (b - x.n1) * x.d2

end Sys2Proof

namespace Sys2Proof.Machine

/-! Element-indexed memories (R104). `free` is what an element reads as that nothing has written. -/

/-- Element `i` of a memory. -/
def readAt {α : Type} (free : Nat → α) (l : List α) (i : Nat) : α := l[i]?.getD (free i)

/-- Write element `i`; unwritten elements below it keep their free values. -/
def writeAt {α : Type} (free : Nat → α) (l : List α) (i : Nat) (v : α) : List α :=
  if i < l.length then l.set i v
  else l ++ (List.range' l.length (i - l.length)).map free ++ [v]

/-- Write consecutive elements from `i` on, in order. -/
def writeFrom {α : Type} (free : Nat → α) (l : List α) (i : Nat) : List α → List α
  | [] => l
  | v :: vs => writeFrom free (writeAt free l i v) (i + 1) vs

/-- Element `(r, c)` of a two-dimensional memory. -/
def readAt2 {α : Type} (free : Nat → Nat → α) (g : List (List α)) (r c : Nat) : α :=
  readAt (free r) (g[r]?.getD []) c

/-- Write element `(r, c)` of a two-dimensional memory. -/
def writeAt2 {α : Type} (free : Nat → Nat → α) (g : List (List α)) (r c : Nat) (v : α) : List (List α) :=
  writeAt (fun _ => []) g r (writeAt (free r) (g[r]?.getD []) c v)

/-- `BITBUF[i]` (R28). -/
def State.bitAt (s : State) (i : Nat) : Bool := readAt Config.unwrittenBit s.bitbuf i

/-- `RSBUF[i]` (R31). -/
def State.rsAt (s : State) (i : Nat) : Byte := readAt Config.unwrittenRsbuf s.rsbuf i

/-- `SYN[j]` (R32). -/
def State.synAt (s : State) (j : Nat) : Byte := readAt Config.unwrittenSyn s.syn j

/-- `PAR[b][j]` (R33). -/
def State.parAt (s : State) (b j : Nat) : Byte := readAt2 Config.unwrittenPar s.par b j

/-- `CW[n]` (R34). -/
def State.cwAt (s : State) (n : Nat) : Byte := readAt Config.unwrittenCw s.cw n

/-- `GRID[r][c]` of a grid (R35). -/
def gridAt (g : List (List Module)) (r c : Nat) : Module := readAt2 Config.unwrittenModule g r c

/-- `GRID[r][c]` (R35). -/
def State.moduleAt (s : State) (r c : Nat) : Module := gridAt s.grid r c

/-- `GRID[r][c] <- m`. -/
def gridSet (g : List (List Module)) (r c : Nat) (m : Module) : List (List Module) :=
  writeAt2 Config.unwrittenModule g r c m

/-- The dark bit of a module; that of `Unset` reads 0 (R35). -/
def darkOf : Module → Bool
  | .unset => false
  | .function d => d
  | .data d => d

/-! Codes of the enumerated registers. -/

/-- The number of a phase (R23). -/
def Phase.code : Phase → Nat
  | .idle => 0 | .configured => 1 | .payload => 2 | .terminated => 3 | .aligned => 4 | .packed => 5 | .coded => 6
  | .matrix => 7 | .placing => 8 | .placed => 9 | .selected => 10 | .done => 11 | .error => 15

/-- The number of an error kind (R370). -/
def ErrCode.code : ErrCode → Nat
  | .none => 0 | .invalidMode => 1 | .capacityExceeded => 2 | .invalidShiftJIS => 3 | .unsupportedVersion => 4
  | .unsupportedECLevel => 5 | .invariantViolation => 6 | .illegalCommand => 7 | .sequenceError => 8 | .operandRange => 9

/-- The number of a level (R26). -/
def Level.code : Level → Nat
  | .L => 0 | .M => 1 | .Q => 2 | .H => 3

/-- The level with a number; every 2-bit number has one (R26). -/
def Level.ofCode (n : Nat) : Level :=
  if n = 0 then .L else if n = 1 then .M else if n = 2 then .Q else .H

/-- The number of a mode (R26). -/
def Mode.code : Mode → Nat
  | .numeric => 0 | .alphanumeric => 1 | .byte => 2 | .kanji => 3

/-- The mode with a number; every 2-bit number has one (R26). -/
def Mode.ofCode (n : Nat) : Mode :=
  if n = 0 then .numeric else if n = 1 then .alphanumeric else if n = 2 then .byte else .kanji

/-- The number of a byte encoding (R26). -/
def Encoding.code : Encoding → Nat
  | .latin1 => 0 | .utf8 => 1

/-- The number of a direction (R37). -/
def Dir.code : Dir → Nat
  | .up => 0 | .down => 1

/-- The number of a side (R37). -/
def Side.code : Side → Nat
  | .right => 0 | .left => 1

/-! Values derived from `VER`, `ECL` and the parameters (R27, R86, R87). -/

/-- `SIZE = 17 + 4*VER`, 0 when `VER = 0` (R27). -/
def State.size (s : State) : Nat := if s.ver.toNat = 0 then 0 else 17 + 4 * s.ver.toNat

/-- `ROM_VSPEC[v][e]` (R85); absent records are free values (notes/assumptions/5.md). -/
def vspecAt (p : Params) (v e : Nat) : VSpec :=
  if v = 0 then Config.absentVSpec v e
  else match p.vspec[v - 1]? with
    | some row => row[e]?.getD (Config.absentVSpec v e)
    | none => Config.absentVSpec v e

/-- `ROM_ALIGN[v]` (R89). -/
def alignAt (p : Params) (v : Nat) : List Nat :=
  if v = 0 then Config.absentAlign v else p.align[v - 1]?.getD (Config.absentAlign v)

/-- `ROM_REMBITS[v]` (R90). -/
def rembitsAt (p : Params) (v : Nat) : Nat :=
  if v = 0 then Config.absentRembits v else p.rembits[v - 1]?.getD (Config.absentRembits v)

/-- The record of the configured version and level (R86). -/
def State.vspec (s : State) : VSpec := vspecAt s.params s.ver.toNat s.ecl.code

/-- `CAPBITS = 8 * DATA_BYTES` (R86). -/
def State.capbits (s : State) : Nat := 8 * s.vspec.dataBytes

/-- `SLEN = 8 * TOTAL + ROM_REMBITS[VER]` (R300). -/
def State.slen (s : State) : Nat := 8 * s.vspec.total + rembitsAt s.params s.ver.toNat

/-! Checks. -/

/-- `require cond else E` (R11). -/
def require (c : Prop) [Decidable c] (e : ErrCode) : Except ErrCode Unit :=
  if c then .ok () else .error e

/-! Taking an error, and leaving it. -/

/-- `raise E` in a command with word `w`, from the state before the command: nothing else changes (R374, R11). -/
def raise (e : ErrCode) (w : Word) (s : State) : State :=
  { s with err := e, errcmd := w, phase := .error }

/-- Every register and memory of R45 at its reset value: `SRESET` and the hard reset (R161, R400), and the only way
out of `ERROR` (R376). The tables are not affected (R400); the host's own side is not QRCORE state. -/
def resetState (s : State) : State :=
  { State.reset with params := s.params, pending := s.pending, replies := s.replies }

/-! Phase legality. -/

/-- "any" means every phase 0 to 11 (R47). -/
def Phase.isAny (p : Phase) : Bool := p ≠ .error

/-- `p` is one of the phases `lo` to `hi` of the pipeline (R47). -/
def Phase.within (p lo hi : Phase) : Bool := lo.code ≤ p.code && p.code ≤ hi.code

/-- The "legal in" column of the table of R47. -/
def legalIn : Instr → Phase → Bool
  | .nop, p => p.isAny
  | .sreset, _ => true
  | .cfgSym _ _ _, p => p = .idle
  | .gfMul _ _, p => p.isAny
  | .gfExp _, p => p.isAny
  | .gfLog _, p => p.isAny
  | .gfGen _ _, p => p.isAny
  | .bsHead _, p => p = .configured
  | .bsNum3 _ _ _, p => p = .payload
  | .bsNum2 _ _, p => p = .payload
  | .bsNum1 _, p => p = .payload
  | .bsAn2 _ _, p => p = .payload
  | .bsAn1 _, p => p = .payload
  | .bsByte _, p => p = .payload
  | .bsKanji _ _, p => p = .payload
  | .bsTerm, p => p = .payload
  | .bsAlign, p => p = .terminated
  | .bsPad, p => p = .aligned
  | .bsFinish, p => p = .payload
  | .bsGet _, p => p.within .configured .done
  | .bsGetb _, p => p.within .configured .done
  | .rsCfg _ _, p => p.isAny
  | .rsData _, p => p.isAny
  | .rsStep, p => p.isAny
  | .rsRun, p => p.isAny
  | .rsGet _, p => p.isAny
  | .synClr _, p => p.isAny
  | .synIn _, p => p.isAny
  | .synGet _, p => p.isAny
  | .synOk, p => p.isAny
  | .eccRun, p => p = .packed
  | .blkGet _ _, p => p.within .coded .done
  | .cwGet _, p => p.within .coded .done
  | .mxInit, p => p = .coded
  | .mxFinder, p => p = .matrix
  | .mxTiming, p => p = .matrix
  | .mxAlign, p => p = .matrix
  | .mxReserve, p => p = .matrix
  | .mxFunc, p => p = .matrix
  | .mxGet _ _, p => p.within .matrix .done
  | .mxPix _ _, p => p = .done
  | .plStart, p => p = .matrix
  | .plNext, p => p = .placing
  | .plBit, p => p = .placing
  | .plRun, p => p = .matrix || p = .placing
  | .mkApply _, p => p = .placed
  | .mkPen _, p => p = .placed || p = .selected || p = .done
  | .mkSelect, p => p = .placed
  | .mkBit _ _ _, p => p.isAny
  | .mkTrial _, p => p = .selected || p = .done
  | .fmtWord _ _, p => p.isAny
  | .verWord _, p => p.isAny
  | .mdFmt _, p => p = .placed
  | .mdVer, p => p = .selected

/-! The frame of a command. -/

/-- A command's body ran: its new state, or the error it raised, recorded with the command word `w` on the state
before the command (R374). -/
def settle (w : Word) (s : State) : Except ErrCode State → Host.Outcome State Fault Refusal
  | .ok t => .next t
  | .error e => .next (raise e w s)

/-- Steps 1, 4 and 5 of `issue(w)` for a decoded command other than `SRESET`: ignored in `ERROR` (R375), refused with
`SequenceError` outside its phases (R47), else its body runs (R132). `ERRCMD` is the command's own word. -/
def command (i : Instr) (body : State → Except ErrCode State) (s : State) : Host.Outcome State Fault Refusal :=
  if s.phase = .error then .next s
  else if legalIn i s.phase = true then settle (encode i) s (body s)
  else settle (encode i) s (.error .sequenceError)

/-- `RES <- v` (R25). -/
def setRes (v : Word) (s : State) : State := { s with res := v }

/-- `zext_32` of a number that fits 32 bits (R8). -/
def zext32 (n : Nat) : Word := BitVec.ofNat 32 n

end Sys2Proof.Machine
end

