-- ==== Sys2Proof/Machine/Operands.lean ====
section
/-! DEFINITION. Operand forms: characters of the modes, Kanji pairs, indices, selectors
(spec/42_bitstream.md R196, R197, R207; spec/48_arithmetic_and_sequencing.md R394). -/
namespace Sys2Proof.Machine

/-- The number of a digit character: `0x30 <= c <= 0x39`, else `InvalidMode` (R196). -/
def digit (c : Byte) : Except ErrCode Nat :=
  if 0x30 ≤ c.toNat ∧ c.toNat ≤ 0x39 then .ok (c.toNat - 0x30) else .error .invalidMode

/-- `ANVAL(c)`: the 45 alphanumeric characters, none for any other byte (R82). -/
def anval (c : Byte) : Option Nat :=
  let n := c.toNat
  if 0x30 ≤ n ∧ n ≤ 0x39 then some (n - 0x30)
  else if 0x41 ≤ n ∧ n ≤ 0x5A then some (n - 0x41 + 10)
  else if n = 0x20 then some 36
  else if n = 0x24 then some 37
  else if n = 0x25 then some 38
  else if n = 0x2A then some 39
  else if n = 0x2B then some 40
  else if n = 0x2D then some 41
  else if n = 0x2E then some 42
  else if n = 0x2F then some 43
  else if n = 0x3A then some 44
  else none

/-- The value of an alphanumeric character, else `InvalidMode` (R197). -/
def anv (c : Byte) : Except ErrCode Nat :=
  match anval c with
  | some n => .ok n
  | none => .error .invalidMode

/-- The 13-bit value of a two-byte Shift-JIS character, high byte first, else `InvalidShiftJIS` (R207, R107). -/
def kanjiValue (b1 b0 : Byte) : Except ErrCode Nat :=
  let v := b1.toNat * 256 + b0.toNat
  let pack (t : Nat) : Nat := t / 256 * 0xC0 + t % 256
  if 0x8140 ≤ v ∧ v ≤ 0x9FFC then .ok (pack (v - 0x8140))
  else if 0xE040 ≤ v ∧ v ≤ 0xEBBF then .ok (pack (v - 0xC140))
  else .error .invalidShiftJIS

/-- `MODEIND[MODE]` (R80). -/
def modeIndicator : Mode → Nat
  | .numeric => 0b0001 | .alphanumeric => 0b0010 | .byte => 0b0100 | .kanji => 0b1000

/-- `band(VER)`: 0 for versions 1 to 9, 1 for 10 to 26, 2 for 27 to 40 (R81). -/
def versionBand (v : Nat) : Nat := if v ≤ 9 then 0 else if v ≤ 26 then 1 else 2

/-- `CNTW[MODE][band]`, the width of the character-count field (R81). -/
def countWidth (m : Mode) (band : Nat) : Nat :=
  match m with
  | .numeric => if band = 0 then 10 else if band = 1 then 12 else 14
  | .alphanumeric => if band = 0 then 9 else if band = 1 then 11 else 13
  | .byte => if band = 0 then 8 else 16
  | .kanji => if band = 0 then 8 else if band = 1 then 10 else 12

/-- `ECCODE[ECL]`, the level code of the format word (R83). -/
def levelCode : Level → Nat
  | .L => 0b01 | .M => 0b00 | .Q => 0b11 | .H => 0b10

/-- `bitsMSB(v, n)`: the `n` bits of `v` from bit `n-1` first to bit 0 last (R8, R105). -/
def bitsMSB (v n : Nat) : List Bool := (List.range n).map fun i => v.testBit (n - 1 - i)

/-- A byte from its eight bits, the first being bit 7 (R106, R194). -/
def byteOfBits (f : Nat → Bool) : Byte :=
  BitVec.ofNat 8 ((List.range 8).foldl (fun acc k => acc + (f k).toNat <<< (7 - k)) 0)

end Sys2Proof.Machine
end

