-- ==== Sys2Proof/Machine/Flags.lean ====
section
/-! DEFINITION. The status bits that gate commands; QRCORE has no condition codes (spec/10_state.md R42). -/
namespace Sys2Proof.Machine

/-- `FNMASK` bit of `MX_FINDER` (R36). -/
def fnFinder : BitVec 4 := 0b0001#4

/-- `FNMASK` bit of `MX_TIMING` (R36). -/
def fnTiming : BitVec 4 := 0b0010#4

/-- `FNMASK` bit of `MX_ALIGN` (R36). -/
def fnAlign : BitVec 4 := 0b0100#4

/-- `FNMASK` bit of `MX_RESERVE` (R36). -/
def fnReserve : BitVec 4 := 0b1000#4

/-- All four function-pattern commands have run (R36). -/
def fnAll : BitVec 4 := 0b1111#4

/-- The code of `APPLIED`: the mask in the grid, or 8 for none (R39). -/
def appliedCode : Option (BitVec 3) → Nat
  | some m => m.toNat
  | none => 8

/-- The 1-bit number of a flag. -/
def flagCode (b : Bool) : Nat := b.toNat

end Sys2Proof.Machine
end

