-- ==== Sys2Proof/Machine/Control.lean ====
section
/-! DEFINITION. Control commands (spec/40_control.md). -/
namespace Sys2Proof.Machine

/-- `NOP`: no state changes (R160). -/
def execNop (s : State) : Host.Outcome State Fault Refusal :=
  command .nop (fun s => .ok s) s

/-- `SRESET`: all state to its reset value, in every phase, `ERROR` included (R161). -/
def execSreset (s : State) : Host.Outcome State Fault Refusal :=
  .next (resetState s)

/-- `CFG_SYM ver, ecl, me` (R162). -/
def cfgSymBody (ver ecl me : Byte) (s : State) : Except ErrCode State := do
  require (1 ≤ ver.toNat ∧ ver.toNat ≤ 40) .unsupportedVersion
  require (ecl.toNat ≤ 3) .unsupportedECLevel
  .ok { s with
    ver := BitVec.ofNat 6 ver.toNat
    ecl := Level.ofCode ecl.toNat
    mode := Mode.ofCode (me.toNat % 4)
    enc := if me.getLsbD 2 then .utf8 else .latin1
    bitlen := 0
    phase := .configured }

/-- `CFG_SYM` (R162). -/
def execCfgSym (ver ecl me : Byte) (s : State) : Host.Outcome State Fault Refusal :=
  command (.cfgSym ver ecl me) (cfgSymBody ver ecl me) s

end Sys2Proof.Machine
end

