-- ==== Sys2Proof/Machine/Cells.lean ====
section
/-! DEFINITION. Where function modules lie and what they hold: the format and version code words and their cells
(spec/47_metadata.md R350 to R354) and the function patterns as lists of writes (spec/44_matrix_builder.md R273 to
R276). -/
namespace Sys2Proof.Machine

/-- A write of `Function(dark)`: row, column, dark (R270). -/
abbrev FuncWrite := Nat × Nat × Bool

/-- `set_func(r, c, d)` (R270). -/
def setFunc (g : List (List Module)) (w : FuncWrite) : List (List Module) :=
  gridSet g w.1 w.2.1 (.function w.2.2)

/-- Several `set_func`, in order. -/
def setFuncs (ws : List FuncWrite) (g : List (List Module)) : List (List Module) := ws.foldl setFunc g

/-! Code words. -/

/-- `poly_rem(v, g, dg, top)`, remainder of a GF(2) polynomial division (R350). -/
def polyRem (v g dg top : Nat) : Nat :=
  (List.range (top + 1 - dg)).foldl
    (fun v k => let i := top - k; if v.testBit i then v ^^^ (g <<< (i - dg)) else v) v

/-- `fmt_word(e, m)` (R351). -/
def fmtWord (e : Level) (m : Nat) : BitVec 15 :=
  let d := levelCode e * 8 + m
  BitVec.ofNat 15 ((d <<< 10 ||| polyRem (d <<< 10) 0x537 10 14) ^^^ 0x5412)

/-- `ver_word(v)` (R352). -/
def verWord (v : Nat) : BitVec 18 :=
  BitVec.ofNat 18 (v <<< 12 ||| polyRem (v <<< 12) 0x1F25 12 17)

/-! Cells. -/

/-- `fmt_cell_a(i)` (R353). -/
def fmtCellA (i : Nat) : Nat × Nat :=
  if i ≤ 5 then (i, 8) else if i = 6 then (7, 8) else if i = 7 then (8, 8) else if i = 8 then (8, 7) else (8, 14 - i)

/-- `fmt_cell_b(i)` (R353). -/
def fmtCellB (size i : Nat) : Nat × Nat :=
  if i ≤ 5 then (8, size - 1 - i) else if i = 6 then (8, size - 7) else if i = 7 then (8, size - 8)
  else if i = 8 then (size - 7, 8) else (size - 15 + i, 8)

/-- `ver_cell_a(i)` (R354). -/
def verCellA (size i : Nat) : Nat × Nat := (i / 3, size - 11 + i % 3)

/-- `ver_cell_b(i)` (R354). -/
def verCellB (size i : Nat) : Nat × Nat := (size - 11 + i % 3, i / 3)

/-- Both copies of the format word, bit by bit (R355). -/
def fmtWrites (size : Nat) (w : BitVec 15) : List FuncWrite :=
  (List.range 15).flatMap fun i =>
    [((fmtCellA i).1, (fmtCellA i).2, w.getLsbD i), ((fmtCellB size i).1, (fmtCellB size i).2, w.getLsbD i)]

/-- Both copies of the version word, bit by bit (R356). -/
def verWrites (size : Nat) (w : BitVec 18) : List FuncWrite :=
  (List.range 18).flatMap fun i =>
    [((verCellA size i).1, (verCellA size i).2, w.getLsbD i), ((verCellB size i).1, (verCellB size i).2, w.getLsbD i)]

/-! Patterns. -/

/-- The distance of `a` and `b`. -/
def absDiff (a b : Nat) : Nat := (a - b) + (b - a)

/-- The writes of an `n` by `m` area with top-left corner `(r0, c0)`, row by row. -/
def areaWrites (r0 c0 n m : Nat) (dark : Nat → Nat → Bool) : List FuncWrite :=
  (List.range n).flatMap fun dr => (List.range m).map fun dc => (r0 + dr, c0 + dc, dark dr dc)

/-- A 7x7 finder is dark but for the ring at distance 2 from its centre (R273). -/
def finderDark (dr dc : Nat) : Bool := max (absDiff dr 3) (absDiff dc 3) ≠ 2

/-- The three light 8x8 corner regions, then the three finders (R273). -/
def finderWrites (size : Nat) : List FuncWrite :=
  areaWrites 0 0 8 8 (fun _ _ => false) ++ areaWrites 0 (size - 8) 8 8 (fun _ _ => false)
    ++ areaWrites (size - 8) 0 8 8 (fun _ _ => false)
    ++ areaWrites 0 0 7 7 finderDark ++ areaWrites 0 (size - 7) 7 7 finderDark ++ areaWrites (size - 7) 0 7 7 finderDark

/-- The two timing patterns, indices 8 to `SIZE-9`, dark at even indices (R274). -/
def timingWrites (size : Nat) : List FuncWrite :=
  (List.range' 8 (size - 16)).flatMap fun i => [(6, i, i % 2 = 0), (i, 6, i % 2 = 0)]

/-- A 5x5 alignment pattern is dark but for the ring at distance 1 from its centre (R275). -/
def alignDark (dr dc : Nat) : Bool := max (absDiff dr 2) (absDiff dc 2) ≠ 1

/-- The three pairs of coordinates at the finder corners (R275). -/
def alignSkipped (size r c : Nat) : Bool :=
  (r = 6 && c = 6) || (r = 6 && c = size - 7) || (r = size - 7 && c = 6)

/-- The centres of the alignment patterns: every pairwise combination but the skipped ones (R275). -/
def alignCentres (size : Nat) (a : List Nat) : List (Nat × Nat) :=
  (a.flatMap fun r => a.map fun c => (r, c)).filter fun rc => !alignSkipped size rc.1 rc.2

/-- The alignment patterns, each 5x5 around its centre (R275). -/
def alignWrites (size : Nat) (a : List Nat) : List FuncWrite :=
  (alignCentres size a).flatMap fun rc => areaWrites (rc.1 - 2) (rc.2 - 2) 5 5 alignDark

/-- The reserved cells, light, and the dark module at `(SIZE-8, 8)` (R276). -/
def reserveWrites (ver size : Nat) : List FuncWrite :=
  fmtWrites size 0 ++ [(size - 8, 8, true)] ++ (if 7 ≤ ver then verWrites size 0 else [])

end Sys2Proof.Machine
end

