-- ==== Sys2Proof/Machine/Matrix.lean ====
section
/-! DEFINITION. qr_matrix_builder, the `MX_` commands (spec/44_matrix_builder.md). -/
namespace Sys2Proof.Machine

/-- Write function modules into the grid (R270). -/
def writeFuncs (ws : List FuncWrite) (s : State) : State := { s with grid := setFuncs ws s.grid }

/-- Record that a function-pattern command has run (R36). -/
def setFn (b : BitVec 4) (s : State) : State := { s with fnmask := s.fnmask ||| b }

/-- `MX_INIT`: every module in use `Unset` (R272). -/
def mxInitBody (s : State) : Except ErrCode State :=
  .ok { s with grid := List.replicate s.size (List.replicate s.size .unset), fnmask := 0, phase := .matrix }

/-- `MX_INIT` (R272). -/
def execMxInit (s : State) : Host.Outcome State Fault Refusal :=
  command .mxInit mxInitBody s

/-- `MX_FINDER` (R273). -/
def mxFinderOp (s : State) : State := setFn fnFinder (writeFuncs (finderWrites s.size) s)

/-- `MX_TIMING` (R274). -/
def mxTimingOp (s : State) : State := setFn fnTiming (writeFuncs (timingWrites s.size) s)

/-- `MX_ALIGN` (R275). -/
def mxAlignOp (s : State) : State :=
  setFn fnAlign (writeFuncs (alignWrites s.size (alignAt s.params s.ver.toNat)) s)

/-- `MX_RESERVE` (R276). -/
def mxReserveOp (s : State) : State := setFn fnReserve (writeFuncs (reserveWrites s.ver.toNat s.size) s)

/-- `MX_FINDER` (R273). -/
def execMxFinder (s : State) : Host.Outcome State Fault Refusal :=
  command .mxFinder (fun s => .ok (mxFinderOp s)) s

/-- `MX_TIMING` (R274). -/
def execMxTiming (s : State) : Host.Outcome State Fault Refusal :=
  command .mxTiming (fun s => .ok (mxTimingOp s)) s

/-- `MX_ALIGN` (R275). -/
def execMxAlign (s : State) : Host.Outcome State Fault Refusal :=
  command .mxAlign (fun s => .ok (mxAlignOp s)) s

/-- `MX_RESERVE` (R276). -/
def execMxReserve (s : State) : Host.Outcome State Fault Refusal :=
  command .mxReserve (fun s => .ok (mxReserveOp s)) s

/-- `MX_FUNC`: the four, in order, as one command (R277). -/
def mxFuncOp (s : State) : State := mxReserveOp (mxAlignOp (mxTimingOp (mxFinderOp s)))

/-- `MX_FUNC` (R277). -/
def execMxFunc (s : State) : Host.Outcome State Fault Refusal :=
  command .mxFunc (fun s => .ok (mxFuncOp s)) s

/-- The 3-bit code `{tag, dark}` of a module (R35, R280). -/
def moduleCode : Module → Nat
  | .unset => 0b000
  | .function d => 0b010 + d.toNat
  | .data d => 0b100 + d.toNat

/-- `MX_GET r, c` (R280). -/
def mxGetBody (row col : Byte) (s : State) : Except ErrCode State := do
  require (row.toNat < s.size ∧ col.toNat < s.size) .operandRange
  .ok (setRes (zext32 (moduleCode (s.moduleAt row.toNat col.toNat))) s)

/-- `MX_GET` (R280). -/
def execMxGet (row col : Byte) (s : State) : Host.Outcome State Fault Refusal :=
  command (.mxGet row col) (mxGetBody row col) s

/-- `MX_PIX r, c` (R283). -/
def mxPixBody (row col : Byte) (s : State) : Except ErrCode State := do
  require (row.toNat < s.size ∧ col.toNat < s.size) .operandRange
  .ok (setRes (zext32 (darkOf (s.moduleAt row.toNat col.toNat)).toNat) s)

/-- `MX_PIX` (R283). -/
def execMxPix (row col : Byte) (s : State) : Host.Outcome State Fault Refusal :=
  command (.mxPix row col) (mxPixBody row col) s

end Sys2Proof.Machine
end

