-- ==== Sys2Proof/Machine/Metadata.lean ====
section
/-! DEFINITION. bch_golay_metadata_encoder: `FMT_WORD`, `VER_WORD`, `MD_FMT`, `MD_VER` (spec/47_metadata.md). The code
words and cells are in Cells.lean. -/
namespace Sys2Proof.Machine

/-- `write_fmt(w)` on a grid (R355). -/
def writeFmt (size : Nat) (w : BitVec 15) (g : List (List Module)) : List (List Module) := setFuncs (fmtWrites size w) g

/-- `write_ver()` on a grid: nothing for versions 1 to 6 (R356). -/
def writeVer (ver size : Nat) (g : List (List Module)) : List (List Module) :=
  if 7 ≤ ver then setFuncs (verWrites size (verWord ver)) g else g

/-- `FMT_WORD e, m` (R357). -/
def fmtWordBody (e m : Byte) (s : State) : Except ErrCode State := do
  require (e.toNat ≤ 3) .operandRange
  require (m.toNat ≤ 7) .operandRange
  .ok (setRes (zext32 (fmtWord (Level.ofCode e.toNat) m.toNat).toNat) s)

/-- `FMT_WORD` (R357). -/
def execFmtWord (e m : Byte) (s : State) : Host.Outcome State Fault Refusal :=
  command (.fmtWord e m) (fmtWordBody e m) s

/-- `VER_WORD v` (R358). -/
def verWordBody (v : Byte) (s : State) : Except ErrCode State := do
  require (7 ≤ v.toNat ∧ v.toNat ≤ 40) .operandRange
  .ok (setRes (zext32 (verWord v.toNat).toNat) s)

/-- `VER_WORD` (R358). -/
def execVerWord (v : Byte) (s : State) : Host.Outcome State Fault Refusal :=
  command (.verWord v) (verWordBody v) s

/-- `MD_FMT m` (R359). -/
def mdFmtBody (m : Byte) (s : State) : Except ErrCode State := do
  require (m.toNat ≤ 7) .operandRange
  .ok { s with grid := writeFmt s.size (fmtWord s.ecl m.toNat) s.grid }

/-- `MD_FMT` (R359). -/
def execMdFmt (m : Byte) (s : State) : Host.Outcome State Fault Refusal :=
  command (.mdFmt m) (mdFmtBody m) s

/-- `MD_VER` (R360). -/
def mdVerBody (s : State) : Except ErrCode State :=
  .ok { s with grid := writeVer s.ver.toNat s.size s.grid, phase := .done }

/-- `MD_VER` (R360). -/
def execMdVer (s : State) : Host.Outcome State Fault Refusal :=
  command .mdVer mdVerBody s

end Sys2Proof.Machine
end

