-- ==== Sys2Proof/Machine/Mask.lean ====
section
/-! DEFINITION. mask_evaluator_selector, the `MK_` commands (spec/46_mask_evaluator.md). -/
namespace Sys2Proof.Machine

/-! The masks. -/

/-- `mask_bit(m, i, j)` for mask index `m` in 0 to 7 (R320). -/
def maskBit (m i j : Nat) : Bool :=
  if m = 0 then (i + j) % 2 = 0
  else if m = 1 then i % 2 = 0
  else if m = 2 then j % 3 = 0
  else if m = 3 then (i + j) % 3 = 0
  else if m = 4 then (i / 2 + j / 3) % 2 = 0
  else if m = 5 then i * j % 2 + i * j % 3 = 0
  else if m = 6 then (i * j % 2 + i * j % 3) % 2 = 0
  else ((i + j) % 2 + i * j % 3) % 2 = 0

/-- One module under `flip(m)` (R321). -/
def flipModule (bit : Bool) : Module → Module
  | .data d => .data (d ^^ bit)
  | .function d => .function d
  | .unset => .unset

/-- One row under `flip(m)`. -/
def flipRow (size m r : Nat) (row : List Module) : List Module :=
  row.zipIdx.map fun (x, c) => flipModule (c < size && maskBit m r c) x

/-- `flip(m)`: XOR mask `m` into the data modules of the grid in use (R321). -/
def flipGrid (size m : Nat) (g : List (List Module)) : List (List Module) :=
  g.zipIdx.map fun (row, r) => if r < size then flipRow size m r row else row

/-! The penalty. -/

/-- Row `r` of `D`, the dark bits (R325). -/
def darkRow (size : Nat) (g : List (List Module)) (r : Nat) : List Bool :=
  (List.range size).map fun c => darkOf (gridAt g r c)

/-- Column `c` of `D` (R325). -/
def darkCol (size : Nat) (g : List (List Module)) (c : Nat) : List Bool :=
  (List.range size).map fun r => darkOf (gridAt g r c)

/-- The `2 * SIZE` lines: rows and columns (R325). -/
def penaltyLines (size : Nat) (g : List (List Module)) : List (List Bool) :=
  (List.range size).map (darkRow size g) ++ (List.range size).map (darkCol size g)

/-- The lengths of the maximal runs of a line that goes on with `xs` after `n` values `c`. -/
def runsFrom (c : Bool) (n : Nat) : List Bool → List Nat
  | [] => [n]
  | x :: xs => if x = c then runsFrom c (n + 1) xs else n :: runsFrom x 1 xs

/-- The lengths of the maximal runs of a line (R327). -/
def runs : List Bool → List Nat
  | [] => []
  | x :: xs => runsFrom x 1 xs

/-- What a run adds to N1 (R327). -/
def runScore (len : Nat) : Nat := if 5 ≤ len then 3 + (len - 5) else 0

/-- The N1 part of a line (R327). -/
def lineN1 (line : List Bool) : Nat := ((runs line).map runScore).sum

/-- N1 (R327). -/
def penaltyN1 (size : Nat) (g : List (List Module)) : Nat := ((penaltyLines size g).map lineN1).sum

/-- The 2x2 block at `(r, c)` is of one colour (R328). -/
def blockUniform (g : List (List Module)) (r c : Nat) : Bool :=
  let d := darkOf (gridAt g r c)
  darkOf (gridAt g r (c + 1)) = d && darkOf (gridAt g (r + 1) c) = d && darkOf (gridAt g (r + 1) (c + 1)) = d

/-- N2 (R328). -/
def penaltyN2 (size : Nat) (g : List (List Module)) : Nat :=
  3 * ((List.range (size - 1)).map fun r => ((List.range (size - 1)).filter (blockUniform g r)).length).sum

/-- The finder-like pattern `P` (R329). -/
def finderLike : List Bool := [true, false, true, true, true, false, true]

/-- `light(t)` for a position of a line, `outside` for one past its right end (R329). -/
def lightAt (outside : Bool) (darks : List Bool) (t : Nat) : Bool :=
  match darks[t]? with
  | some d => !d
  | none => outside

/-- The four positions before `k` are light (R329). -/
def lightBefore (outside : Bool) (line : List Bool) (k : Nat) : Bool :=
  (List.range 4).all fun j => if j < k then lightAt outside line (k - 1 - j) else outside

/-- The four positions after the pattern at `k` are light (R329). -/
def lightAfter (outside : Bool) (line : List Bool) (k : Nat) : Bool :=
  (List.range 4).all fun j => lightAt outside line (k + 7 + j)

/-- Position `k` of a line is a hit (R329). -/
def isHit (outside : Bool) (line : List Bool) (k : Nat) : Bool :=
  (line.drop k).take 7 = finderLike && (lightBefore outside line k || lightAfter outside line k)

/-- The hits of a line, `0 <= k <= SIZE-7` (R329). -/
def lineHits (outside : Bool) (line : List Bool) : Nat :=
  ((List.range (line.length - 6)).filter (isHit outside line)).length

/-- N3 (R329). -/
def penaltyN3 (outside : Bool) (size : Nat) (g : List (List Module)) : Nat :=
  40 * ((penaltyLines size g).map (lineHits outside)).sum

/-- The number of dark modules (R330). -/
def darkCount (size : Nat) (g : List (List Module)) : Nat :=
  ((List.range size).map fun r => (darkRow size g r).count true).sum

/-- N4 from the number of dark modules and of all modules (R330). -/
def balancePenalty (mode : N4Mode) (dark tot : Nat) : Nat :=
  match mode with
  | .exact => 10 * (absDiff (50 * tot) (100 * dark) / (5 * tot))
  | .floorPercent => 10 * (absDiff 50 (100 * dark / tot) / 5)

/-- N4 (R330). -/
def penaltyN4 (mode : N4Mode) (size : Nat) (g : List (List Module)) : Nat :=
  balancePenalty mode (darkCount size g) (size * size)

/-- `penalty() = N1 + N2 + N3 + N4` (R325). -/
def penalty (p : Params) (size : Nat) (g : List (List Module)) : Nat :=
  penaltyN1 size g + penaltyN2 size g + penaltyN3 p.n3OutsideLight size g + penaltyN4 p.n4Mode size g

/-! Commands. -/

/-- `MK_APPLY m` (R322). -/
def mkApplyBody (m : Byte) (s : State) : Except ErrCode State := do
  require (m.toNat ≤ 7) .operandRange
  match s.applied with
  | none => .ok { s with grid := flipGrid s.size m.toNat s.grid, applied := some (BitVec.ofNat 3 m.toNat) }
  | some a =>
    if a.toNat = m.toNat then .ok { s with grid := flipGrid s.size m.toNat s.grid, applied := none }
    else .error .sequenceError

/-- `MK_APPLY` (R322). -/
def execMkApply (m : Byte) (s : State) : Host.Outcome State Fault Refusal :=
  command (.mkApply m) (mkApplyBody m) s

/-- The score `MK_PEN k` returns (R332). -/
def penaltyPart (k : Nat) (p : Params) (size : Nat) (g : List (List Module)) : Nat :=
  if k = 0 then penalty p size g
  else if k = 1 then penaltyN1 size g
  else if k = 2 then penaltyN2 size g
  else if k = 3 then penaltyN3 p.n3OutsideLight size g
  else penaltyN4 p.n4Mode size g

/-- `MK_PEN k` (R332). -/
def mkPenBody (k : Byte) (s : State) : Except ErrCode State := do
  require (k.toNat ≤ 4) .operandRange
  .ok (setRes (zext32 (penaltyPart k.toNat s.params s.size s.grid)) s)

/-- `MK_PEN` (R332). -/
def execMkPen (k : Byte) (s : State) : Host.Outcome State Fault Refusal :=
  command (.mkPen k) (mkPenBody k) s

/-- The variables of the loop of `MK_SELECT`: the grid, the scores so far, the best mask so far with its score. -/
structure Trials where
  grid : List (List Module)
  scores : List Nat
  best : Option (Nat × Nat)

/-- Keep a trial only on strict improvement (R334). -/
def betterTrial (best : Option (Nat × Nat)) (m score : Nat) : Option (Nat × Nat) :=
  match best with
  | none => some (m, score)
  | some (b, bestScore) => if score < bestScore then some (m, score) else some (b, bestScore)

/-- One trial: mask in, format word, score, mask out (R334). -/
def runTrial (p : Params) (ecl : Level) (size : Nat) (t : Trials) (m : Nat) : Trials :=
  let g := writeFmt size (fmtWord ecl m) (flipGrid size m t.grid)
  let score := penalty p size g
  { grid := flipGrid size m g, scores := t.scores ++ [score], best := betterTrial t.best m score }

/-- The eight trials, in scan order 0 to 7 (R334). -/
def runTrials (p : Params) (ecl : Level) (size : Nat) (g : List (List Module)) : Trials :=
  (List.range 8).foldl (runTrial p ecl size) { grid := g, scores := [], best := none }

/-- `MK_SELECT` (R334). -/
def mkSelectBody (s : State) : Except ErrCode State := do
  require (s.applied = none) .sequenceError
  let t := runTrials s.params s.ecl s.size s.grid
  let best := t.best.getD (0, 0)
  .ok { s with
    grid := writeFmt s.size (fmtWord s.ecl best.1) (flipGrid s.size best.1 t.grid)
    trial := Vector.ofFn fun (m : Fin 8) => zext32 (t.scores.getD m.val 0)
    applied := some (BitVec.ofNat 3 best.1)
    bestmask := BitVec.ofNat 3 best.1
    bestscore := zext32 best.2
    phase := .selected }

/-- `MK_SELECT` (R334). -/
def execMkSelect (s : State) : Host.Outcome State Fault Refusal :=
  command .mkSelect mkSelectBody s

/-- `MK_BIT m, i, j` (R323). -/
def mkBitBody (m row col : Byte) (s : State) : Except ErrCode State := do
  require (m.toNat ≤ 7) .operandRange
  .ok (setRes (zext32 (maskBit m.toNat row.toNat col.toNat).toNat) s)

/-- `MK_BIT` (R323). -/
def execMkBit (m row col : Byte) (s : State) : Host.Outcome State Fault Refusal :=
  command (.mkBit m row col) (mkBitBody m row col) s

/-- `MK_TRIAL m` (R335). -/
def mkTrialBody (m : Byte) (s : State) : Except ErrCode State :=
  if h : m.toNat < 8 then .ok (setRes s.trial[m.toNat] s) else .error .operandRange

/-- `MK_TRIAL` (R335). -/
def execMkTrial (m : Byte) (s : State) : Host.Outcome State Fault Refusal :=
  command (.mkTrial m) (mkTrialBody m) s

end Sys2Proof.Machine
end

