-- ==== Sys2Proof/Machine/Placer.lean ====
section
/-! DEFINITION. The data placer, the `PL_` commands (spec/45_data_placer.md). -/
namespace Sys2Proof.Machine

/-- `S[i]`: codeword bits, bit 7 first, then zero remainder bits (R300). Past `SLEN` there is no value
(notes/assumptions/5.md). -/
def State.streamBit (s : State) (i : Nat) : Bool :=
  if i < 8 * s.vspec.total then (s.cwAt (i / 8)).getLsbD (7 - i % 8)
  else if i < s.slen then false
  else Config.absentStreamBit i

/-- `pl_col()`, the current column (R302). -/
def State.plCol (s : State) : Nat := s.plColpair.toNat - s.plSide.code

/-- The module at the placer's position (R37). -/
def State.plModule (s : State) : Module := s.moduleAt s.plRow.toNat s.plCol

/-- The pair left of a column pair: from 8 step over column 6 (R301). -/
def nextPair (p : Nat) : Nat := if p = 8 then 5 else p - 2

/-- The other direction. -/
def Dir.flip : Dir → Dir
  | .up => .down
  | .down => .up

/-- `pl_next()`, the transition function; it does not look at the grid (R301). -/
def plNext (s : State) : State :=
  if s.plDone then s
  else if s.plSide = .right then { s with plSide := .left }
  else if s.plDir = .up ∧ 0 < s.plRow.toNat then
    { s with plRow := BitVec.ofNat 8 (s.plRow.toNat - 1), plSide := .right }
  else if s.plDir = .down ∧ s.plRow.toNat + 1 < s.size then
    { s with plRow := BitVec.ofNat 8 (s.plRow.toNat + 1), plSide := .right }
  else if s.plColpair = 1 then { s with plDone := true }
  else { s with
    plColpair := BitVec.ofNat 8 (nextPair s.plColpair.toNat)
    plDir := s.plDir.flip
    plSide := .right }

/-- `PL_START` (R303). -/
def plStartBody (s : State) : Except ErrCode State := do
  require (s.fnmask = fnAll) .sequenceError
  .ok { s with
    plRow := BitVec.ofNat 8 (s.size - 1)
    plColpair := BitVec.ofNat 8 (s.size - 1)
    plDir := .up
    plSide := .right
    plDone := false
    bitpos := 0
    phase := .placing }

/-- `PL_START` (R303). -/
def execPlStart (s : State) : Host.Outcome State Fault Refusal :=
  command .plStart plStartBody s

/-- `PL_NEXT` (R304). -/
def plNextBody (s : State) : Except ErrCode State := do
  require (s.plDone = false) .sequenceError
  .ok (plNext s)

/-- `PL_NEXT` (R304). -/
def execPlNext (s : State) : Host.Outcome State Fault Refusal :=
  command .plNext plNextBody s

/-- The first loop of `pl_bit()`: `pl_next()` over modules that are not `Unset` (R305). `fuel` bounds the rounds; the
traversal has `SIZE*(SIZE-1)` positions, so `SIZE*SIZE` suffices (R301, R408, notes/assumptions/8.md). -/
def plSkip : (fuel : Nat) → State → State
  | 0, s => s
  | fuel + 1, s =>
    if s.plDone = false ∧ s.plModule ≠ .unset then plSkip fuel (plNext s) else s

/-- No module in use is `Unset` (R305). -/
def State.noUnset (s : State) : Bool :=
  (List.range s.size).all fun r => (List.range s.size).all fun c => s.moduleAt r c ≠ .unset

/-- Place the next bit at the current position, advance, and finish after the last bit (R305). -/
def plPlace (s : State) : Except ErrCode State := do
  let s1 := plNext { s with
    grid := gridSet s.grid s.plRow.toNat s.plCol (.data (s.streamBit s.bitpos.toNat))
    bitpos := BitVec.ofNat 15 (s.bitpos.toNat + 1) }
  if s1.bitpos.toNat = s1.slen then do
    require (s1.noUnset = true) .invariantViolation
    .ok { s1 with phase := .placed }
  else .ok s1

/-- `pl_bit()` (R305). -/
def plBitBody (s : State) : Except ErrCode State := do
  let s1 := plSkip (s.size * s.size) s
  require (s1.plDone = false ∧ s1.plModule = .unset) .invariantViolation
  plPlace s1

/-- `PL_BIT` (R305). -/
def execPlBit (s : State) : Host.Outcome State Fault Refusal :=
  command .plBit plBitBody s

/-- The loop of `PL_RUN`: `pl_bit()` while `PHASE = PLACING` (R306). `fuel` bounds the rounds; every round fills one
of at most `SIZE*SIZE` modules (R408, notes/assumptions/8.md). -/
def plRunLoop : (fuel : Nat) → State → Except ErrCode State
  | 0, s => if s.phase = .placing then .error .invariantViolation else .ok s
  | fuel + 1, s =>
    if s.phase = .placing then do
      let s1 ← plBitBody s
      plRunLoop fuel s1
    else .ok s

/-- `PL_RUN` (R306). -/
def plRunBody (s : State) : Except ErrCode State := do
  let s1 ← if s.phase = .matrix then plStartBody s else .ok s
  plRunLoop (s1.size * s1.size) s1

/-- `PL_RUN` (R306). -/
def execPlRun (s : State) : Host.Outcome State Fault Refusal :=
  command .plRun plRunBody s

end Sys2Proof.Machine
end

