-- ==== Sys2Proof/Machine/Gf.lean ====
section
/-! DEFINITION. The GF(256) multiplier and its four query commands (spec/41_gf256.md). -/
namespace Sys2Proof.Machine

/-- `gf_mul(a, b)` by the tables (R171). -/
def gfMul (a b : Byte) : Byte :=
  if a = 0 ∨ b = 0 then 0 else gfExpOf ((gfLogOf a + gfLogOf b) % 255)

/-- One round of `gf_mul_shift`: add `a` where the multiplier's bit is set, then `a := a * x` reduced by `0x11D`,
`a` held in 9 bits (R176). -/
def gfShiftRound (b : Byte) (pa : BitVec 9 × BitVec 9) (i : Nat) : BitVec 9 × BitVec 9 :=
  let p := if b.getLsbD i then pa.1 ^^^ pa.2 else pa.1
  let a := pa.2 <<< 1
  (p, if a.getLsbD 8 then a ^^^ 0x11D#9 else a)

/-- `gf_mul_shift(a, b)`, the equivalent definition without tables (R176). -/
def gfMulShift (a b : Byte) : Byte :=
  (((List.range 8).foldl (gfShiftRound b) (0#9, a.setWidth 9)).1).setWidth 8

/-- `GF_MUL a, b` (R172). -/
def execGfMul (a b : Byte) (s : State) : Host.Outcome State Fault Refusal :=
  command (.gfMul a b) (fun s => .ok (setRes (zext32 (gfMul a b).toNat) s)) s

/-- `GF_EXP e` (R173). -/
def execGfExp (e : Byte) (s : State) : Host.Outcome State Fault Refusal :=
  command (.gfExp e) (fun s => .ok (setRes (zext32 (gfExpOf e.toNat).toNat) s)) s

/-- `GF_LOG a`: zero has no logarithm (R174). -/
def gfLogBody (a : Byte) (s : State) : Except ErrCode State := do
  require (a ≠ 0) .operandRange
  .ok (setRes (zext32 (gfLogOf a)) s)

/-- `GF_LOG` (R174). -/
def execGfLog (a : Byte) (s : State) : Host.Outcome State Fault Refusal :=
  command (.gfLog a) (gfLogBody a) s

/-- `GF_GEN r, j` (R175). -/
def gfGenBody (r j : Byte) (s : State) : Except ErrCode State := do
  require (r.toNat ∈ validR) .operandRange
  require (j.toNat ≤ r.toNat) .operandRange
  .ok (setRes (zext32 (gfGenOf r.toNat j.toNat).toNat) s)

/-- `GF_GEN` (R175). -/
def execGfGen (r j : Byte) (s : State) : Host.Outcome State Fault Refusal :=
  command (.gfGen r j) (gfGenBody r j) s

end Sys2Proof.Machine
end

