-- ==== Sys2Proof/Machine/Packer.lean ====
section
/-! DEFINITION. bitstream_packer, the `BS_` commands (spec/42_bitstream.md). -/
namespace Sys2Proof.Machine

/-- Put bits at the end of `BITBUF` and advance `BITLEN` (R193, R105). -/
def pushBits (bs : List Bool) (s : State) : State :=
  { s with
    bitbuf := writeFrom Config.unwrittenBit s.bitbuf s.bitlen.toNat bs
    bitlen := BitVec.ofNat 15 (s.bitlen.toNat + bs.length) }

/-- `append(v, n)`: refuses to exceed the capacity (R193). -/
def appendField (v n : Nat) (s : State) : Except ErrCode State := do
  require (s.bitlen.toNat + n ≤ s.capbits) .capacityExceeded
  .ok (pushBits (bitsMSB v n) s)

/-- `dbyte(i)`: data codeword `i`, first bit is bit 7 (R194). -/
def State.dbyte (s : State) (i : Nat) : Byte := byteOfBits fun k => s.bitAt (8 * i + k)

/-- `pay(m)`: the common precondition of the payload commands (R195). -/
def pay (m : Mode) (s : State) : Except ErrCode Unit := do
  require (s.mode = m) .sequenceError
  require (s.tail = false) .sequenceError

/-- Count `n` more characters (R29). -/
def countChars (n : Nat) (s : State) : State := { s with chars := BitVec.ofNat 16 (s.chars.toNat + n) }

/-- A short final group has been packed (R29). -/
def setTail (s : State) : State := { s with tail := true }

/-- The optional ECI header: `"0111"`, then assignment 26, only for Byte mode in UTF-8 (R200). -/
def eciHeader (s : State) : Except ErrCode State :=
  if s.mode = .byte ∧ s.enc = .utf8 then do
    let s1 ← appendField 0b0111 4 s
    appendField 26 8 s1
  else .ok s

/-- `BS_HEAD count` (R200). -/
def bsHeadBody (count : BitVec 16) (s : State) : Except ErrCode State := do
  require (count ≠ 0) .invalidMode
  let w := countWidth s.mode (versionBand s.ver.toNat)
  require (count.toNat < 2 ^ w) .capacityExceeded
  let s1 ← eciHeader s
  let s2 ← appendField (modeIndicator s.mode) 4 s1
  let s3 ← appendField count.toNat w s2
  .ok { s3 with decl := count, chars := 0, tail := false, phase := .payload }

/-- `BS_HEAD` (R200). -/
def execBsHead (count : BitVec 16) (s : State) : Host.Outcome State Fault Refusal :=
  command (.bsHead count) (bsHeadBody count) s

/-- `BS_NUM3 c2, c1, c0` (R201). -/
def bsNum3Body (c2 c1 c0 : Byte) (s : State) : Except ErrCode State := do
  pay .numeric s
  let d2 ← digit c2
  let d1 ← digit c1
  let d0 ← digit c0
  let s1 ← appendField (100 * d2 + 10 * d1 + d0) 10 s
  .ok (countChars 3 s1)

/-- `BS_NUM3` (R201). -/
def execBsNum3 (c2 c1 c0 : Byte) (s : State) : Host.Outcome State Fault Refusal :=
  command (.bsNum3 c2 c1 c0) (bsNum3Body c2 c1 c0) s

/-- `BS_NUM2 c1, c0` (R202). -/
def bsNum2Body (c1 c0 : Byte) (s : State) : Except ErrCode State := do
  pay .numeric s
  let d1 ← digit c1
  let d0 ← digit c0
  let s1 ← appendField (10 * d1 + d0) 7 s
  .ok (setTail (countChars 2 s1))

/-- `BS_NUM2` (R202). -/
def execBsNum2 (c1 c0 : Byte) (s : State) : Host.Outcome State Fault Refusal :=
  command (.bsNum2 c1 c0) (bsNum2Body c1 c0) s

/-- `BS_NUM1 c0` (R203). -/
def bsNum1Body (c0 : Byte) (s : State) : Except ErrCode State := do
  pay .numeric s
  let d0 ← digit c0
  let s1 ← appendField d0 4 s
  .ok (setTail (countChars 1 s1))

/-- `BS_NUM1` (R203). -/
def execBsNum1 (c0 : Byte) (s : State) : Host.Outcome State Fault Refusal :=
  command (.bsNum1 c0) (bsNum1Body c0) s

/-- `BS_AN2 a, b` (R204). -/
def bsAn2Body (a b : Byte) (s : State) : Except ErrCode State := do
  pay .alphanumeric s
  let va ← anv a
  let vb ← anv b
  let s1 ← appendField (va * 45 + vb) 11 s
  .ok (countChars 2 s1)

/-- `BS_AN2` (R204). -/
def execBsAn2 (a b : Byte) (s : State) : Host.Outcome State Fault Refusal :=
  command (.bsAn2 a b) (bsAn2Body a b) s

/-- `BS_AN1 a` (R205). -/
def bsAn1Body (a : Byte) (s : State) : Except ErrCode State := do
  pay .alphanumeric s
  let va ← anv a
  let s1 ← appendField va 6 s
  .ok (setTail (countChars 1 s1))

/-- `BS_AN1` (R205). -/
def execBsAn1 (a : Byte) (s : State) : Host.Outcome State Fault Refusal :=
  command (.bsAn1 a) (bsAn1Body a) s

/-- `BS_BYTE b` (R206). -/
def bsByteBody (b : Byte) (s : State) : Except ErrCode State := do
  pay .byte s
  let s1 ← appendField b.toNat 8 s
  .ok (countChars 1 s1)

/-- `BS_BYTE` (R206). -/
def execBsByte (b : Byte) (s : State) : Host.Outcome State Fault Refusal :=
  command (.bsByte b) (bsByteBody b) s

/-- `BS_KANJI b1, b0` (R207). -/
def bsKanjiBody (b1 b0 : Byte) (s : State) : Except ErrCode State := do
  pay .kanji s
  let v ← kanjiValue b1 b0
  let s1 ← appendField v 13 s
  .ok (countChars 1 s1)

/-- `BS_KANJI` (R207). -/
def execBsKanji (b1 b0 : Byte) (s : State) : Host.Outcome State Fault Refusal :=
  command (.bsKanji b1 b0) (bsKanjiBody b1 b0) s

/-- `BS_TERM`: four zero bits where they fit, else none (R208). -/
def bsTermBody (s : State) : Except ErrCode State := do
  require (s.chars = s.decl) .invariantViolation
  let s1 ← if s.bitlen.toNat + 4 ≤ s.capbits then appendField 0 4 s else .ok s
  .ok { s1 with phase := .terminated }

/-- `BS_TERM` (R208). -/
def execBsTerm (s : State) : Host.Outcome State Fault Refusal :=
  command .bsTerm bsTermBody s

/-- How many zero bits reach the next byte boundary: 0 to 7 (R209). -/
def alignGap (n : Nat) : Nat := (8 - n % 8) % 8

/-- `BS_ALIGN`: zero bits to a byte boundary (R209). -/
def bsAlignBody (s : State) : Except ErrCode State :=
  .ok { pushBits (List.replicate (alignGap s.bitlen.toNat) false) s with phase := .aligned }

/-- `BS_ALIGN` (R209). -/
def execBsAlign (s : State) : Host.Outcome State Fault Refusal :=
  command .bsAlign bsAlignBody s

/-- The loop of `BS_PAD`: pad codeword `i` is `0xEC` for even `i`, else `0x11` (R210). `fuel` bounds the rounds; the
capacity suffices, each round adds 8 bits (R408, notes/assumptions/8.md). -/
def padLoop : (fuel i : Nat) → State → Except ErrCode State
  | 0, _, s => .ok s
  | fuel + 1, i, s =>
    if s.bitlen.toNat < s.capbits then do
      let s1 ← appendField (if i % 2 = 0 then 0xEC else 0x11) 8 s
      padLoop fuel (i + 1) s1
    else .ok s

/-- `BS_PAD` (R210). -/
def bsPadBody (s : State) : Except ErrCode State := do
  let s1 ← padLoop s.capbits 0 s
  require (s1.bitlen.toNat = s1.capbits) .invariantViolation
  .ok { s1 with phase := .packed }

/-- `BS_PAD` (R210). -/
def execBsPad (s : State) : Host.Outcome State Fault Refusal :=
  command .bsPad bsPadBody s

/-- `BS_FINISH`: `BS_TERM`, `BS_ALIGN`, `BS_PAD` as one command (R211). -/
def bsFinishBody (s : State) : Except ErrCode State := do
  let s1 ← bsTermBody s
  let s2 ← bsAlignBody s1
  bsPadBody s2

/-- `BS_FINISH` (R211). -/
def execBsFinish (s : State) : Host.Outcome State Fault Refusal :=
  command .bsFinish bsFinishBody s

/-- `BS_GET i` (R212). -/
def bsGetBody (i : BitVec 16) (s : State) : Except ErrCode State := do
  require (8 * i.toNat + 8 ≤ s.bitlen.toNat) .operandRange
  .ok (setRes (zext32 (s.dbyte i.toNat).toNat) s)

/-- `BS_GET` (R212). -/
def execBsGet (i : BitVec 16) (s : State) : Host.Outcome State Fault Refusal :=
  command (.bsGet i) (bsGetBody i) s

/-- `BS_GETB i` (R213). -/
def bsGetbBody (i : BitVec 16) (s : State) : Except ErrCode State := do
  require (i.toNat < s.bitlen.toNat) .operandRange
  .ok (setRes (zext32 (s.bitAt i.toNat).toNat) s)

/-- `BS_GETB` (R213). -/
def execBsGetb (i : BitVec 16) (s : State) : Host.Outcome State Fault Refusal :=
  command (.bsGetb i) (bsGetbBody i) s

end Sys2Proof.Machine
end

