-- ==== Sys2Proof/Machine/ReedSolomon.lean ====
section
/-! DEFINITION. reed_solomon_encoder: the divider, the syndrome calculator, `ECC_RUN` and the interleaver
(spec/43_reed_solomon.md). -/
namespace Sys2Proof.Machine

/-! The divider. -/

/-- `RSBUF[head + j] ^ gf_mul(GEN[r][j], lead)` for `j = 0 .. r` (R231). -/
def rsXorGenerator (head r : Nat) (lead : Byte) (buf : List Byte) : List Byte :=
  (List.range (r + 1)).foldl
    (fun l j => writeAt Config.unwrittenRsbuf l (head + j)
      (readAt Config.unwrittenRsbuf l (head + j) ^^^ gfMul (gfGenOf r j) lead)) buf

/-- One division step `rs_step()` (R231). -/
def rsStep (s : State) : State :=
  let lead := s.rsAt s.rsHead.toNat
  { s with
    rsbuf := if lead ≠ 0 then rsXorGenerator s.rsHead.toNat s.rsR.toNat lead s.rsbuf else s.rsbuf
    rsHead := BitVec.ofNat 8 (s.rsHead.toNat + 1) }

/-- `n` division steps. -/
def rsSteps : Nat → State → State
  | 0, s => s
  | n + 1, s => rsSteps n (rsStep s)

/-- `RS_CFG k, r` (R232). -/
def rsCfgBody (k r : Nat) (s : State) : Except ErrCode State := do
  require (1 ≤ k) .operandRange
  require (r ∈ validR) .operandRange
  require (k + r ≤ 255) .operandRange
  .ok { s with
    rsK := BitVec.ofNat 8 k
    rsR := BitVec.ofNat 5 r
    rsFill := 0
    rsHead := 0
    rsbuf := List.replicate 255 0 }

/-- `RS_CFG` (R232). -/
def execRsCfg (k r : Byte) (s : State) : Host.Outcome State Fault Refusal :=
  command (.rsCfg k r) (rsCfgBody k.toNat r.toNat) s

/-- `RS_DATA d` (R233). -/
def rsDataBody (d : Byte) (s : State) : Except ErrCode State := do
  require (s.rsR ≠ 0) .sequenceError
  require (s.rsHead = 0 ∧ s.rsFill.toNat < s.rsK.toNat) .sequenceError
  .ok { s with
    rsbuf := writeAt Config.unwrittenRsbuf s.rsbuf s.rsFill.toNat d
    rsFill := BitVec.ofNat 8 (s.rsFill.toNat + 1) }

/-- `RS_DATA` (R233). -/
def execRsData (d : Byte) (s : State) : Host.Outcome State Fault Refusal :=
  command (.rsData d) (rsDataBody d) s

/-- `RS_STEP` (R234). -/
def rsStepBody (s : State) : Except ErrCode State := do
  require (s.rsR ≠ 0) .sequenceError
  require (s.rsFill = s.rsK ∧ s.rsHead.toNat < s.rsK.toNat) .sequenceError
  .ok (rsStep s)

/-- `RS_STEP` (R234). -/
def execRsStep (s : State) : Host.Outcome State Fault Refusal :=
  command .rsStep rsStepBody s

/-- `RS_RUN`: steps while `RS_HEAD < RS_K`, each advancing `RS_HEAD` by one (R235, R408). -/
def rsRunBody (s : State) : Except ErrCode State := do
  require (s.rsR ≠ 0) .sequenceError
  require (s.rsFill = s.rsK) .sequenceError
  .ok (rsSteps (s.rsK.toNat - s.rsHead.toNat) s)

/-- `RS_RUN` (R235). -/
def execRsRun (s : State) : Host.Outcome State Fault Refusal :=
  command .rsRun rsRunBody s

/-- `RS_GET i` (R236). -/
def rsGetBody (i : Byte) (s : State) : Except ErrCode State := do
  require (s.rsR ≠ 0) .sequenceError
  require (i.toNat < s.rsK.toNat + s.rsR.toNat) .operandRange
  .ok (setRes (zext32 (s.rsAt i.toNat).toNat) s)

/-- `RS_GET` (R236). -/
def execRsGet (i : Byte) (s : State) : Host.Outcome State Fault Refusal :=
  command (.rsGet i) (rsGetBody i) s

/-! The syndrome calculator. -/

/-- `SYN_CLR r` (R241). -/
def synClrBody (r : Byte) (s : State) : Except ErrCode State := do
  require (1 ≤ r.toNat ∧ r.toNat ≤ 30) .operandRange
  .ok { s with synR := BitVec.ofNat 5 r.toNat, syn := List.replicate 30 0 }

/-- `SYN_CLR` (R241). -/
def execSynClr (r : Byte) (s : State) : Host.Outcome State Fault Refusal :=
  command (.synClr r) (synClrBody r) s

/-- One Horner step on the accumulators `0 .. n-1`; each reads only itself, so they update together (R242). -/
def synHorner (n : Nat) (b : Byte) (syn : List Byte) : List Byte :=
  (List.range n).foldl
    (fun l j => writeAt Config.unwrittenSyn l j (gfMul (readAt Config.unwrittenSyn l j) (gfExpOf j) ^^^ b)) syn

/-- `SYN_IN b` (R242). -/
def synInBody (b : Byte) (s : State) : Except ErrCode State := do
  require (s.synR ≠ 0) .sequenceError
  .ok { s with syn := synHorner s.synR.toNat b s.syn }

/-- `SYN_IN` (R242). -/
def execSynIn (b : Byte) (s : State) : Host.Outcome State Fault Refusal :=
  command (.synIn b) (synInBody b) s

/-- `SYN_GET j` (R243). -/
def synGetBody (j : Byte) (s : State) : Except ErrCode State := do
  require (s.synR ≠ 0) .sequenceError
  require (j.toNat < s.synR.toNat) .operandRange
  .ok (setRes (zext32 (s.synAt j.toNat).toNat) s)

/-- `SYN_GET` (R243). -/
def execSynGet (j : Byte) (s : State) : Host.Outcome State Fault Refusal :=
  command (.synGet j) (synGetBody j) s

/-- Every accumulator in use is 0 (R244). -/
def State.synAllZero (s : State) : Bool := (List.range s.synR.toNat).all fun j => s.synAt j = 0

/-- `SYN_OK` (R244). -/
def synOkBody (s : State) : Except ErrCode State := do
  require (s.synR ≠ 0) .sequenceError
  .ok (setRes (if s.synAllZero then 1 else 0) s)

/-- `SYN_OK` (R244). -/
def execSynOk (s : State) : Host.Outcome State Fault Refusal :=
  command .synOk synOkBody s

/-! The symbol's blocks and the interleaver. -/

/-- `RS_DATA` of data codewords `off .. off + k - 1` (R250). -/
def loadBlock (off k : Nat) (s : State) : Except ErrCode State :=
  (List.range k).foldlM (fun t i => rsDataBody (s.dbyte (off + i)) t) s

/-- `PAR[b][j] <- RSBUF[k + j]` for `j < r` (R250). -/
def storeParity (b k r : Nat) (s : State) : State :=
  let put (p : List (List Byte)) (j : Nat) := writeAt2 Config.unwrittenPar p b j (s.rsAt (k + j))
  { s with par := (List.range r).foldl put s.par }

/-- The parity of block `b`: `RS_CFG`, `RS_DATA` of its bytes, `RS_RUN`, then store (R250). -/
def codeBlock (b : Nat) (s : State) : Except ErrCode State := do
  let k := s.vspec.blkLen b
  let s1 ← rsCfgBody k s.vspec.r s
  let s2 ← loadBlock (s.vspec.blkOff b) k s1
  let s3 ← rsRunBody s2
  .ok (storeParity b k s.vspec.r s3)

/-- The data columns: column by column, from every block that has one (R251). -/
def dataColumns (s : State) : List Byte :=
  (List.range s.vspec.maxD).flatMap fun col =>
    (List.range s.vspec.nb).flatMap fun b =>
      if col < s.vspec.blkLen b then [s.dbyte (s.vspec.blkOff b + col)] else []

/-- The parity columns: column by column, from every block (R251). -/
def parityColumns (s : State) : List Byte :=
  (List.range s.vspec.r).flatMap fun col => (List.range s.vspec.nb).map fun b => s.parAt b col

/-- The sequence `interleave()` writes to `CW[0 ..]` (R251). -/
def interleaved (s : State) : List Byte := dataColumns s ++ parityColumns s

/-- `ECC_RUN` (R250). -/
def eccRunBody (s : State) : Except ErrCode State := do
  require (s.bitlen.toNat = 8 * s.vspec.dataBytes) .invariantViolation
  let s1 ← (List.range s.vspec.nb).foldlM (fun t b => codeBlock b t) s
  let cws := interleaved s1
  require (cws.length = s.vspec.total) .invariantViolation
  .ok { s1 with
    cw := writeFrom Config.unwrittenCw s1.cw 0 cws
    cwlen := BitVec.ofNat 12 s.vspec.total
    phase := .coded }

/-- `ECC_RUN` (R250). -/
def execEccRun (s : State) : Host.Outcome State Fault Refusal :=
  command .eccRun eccRunBody s

/-- `BLK_GET b, i` (R252). -/
def blkGetBody (b i : Byte) (s : State) : Except ErrCode State := do
  let k := s.vspec.blkLen b.toNat
  require (b.toNat < s.vspec.nb) .operandRange
  require (i.toNat < k + s.vspec.r) .operandRange
  let v := if i.toNat < k then s.dbyte (s.vspec.blkOff b.toNat + i.toNat) else s.parAt b.toNat (i.toNat - k)
  .ok (setRes (zext32 v.toNat) s)

/-- `BLK_GET` (R252). -/
def execBlkGet (b i : Byte) (s : State) : Host.Outcome State Fault Refusal :=
  command (.blkGet b i) (blkGetBody b i) s

/-- `CW_GET i` (R253). -/
def cwGetBody (i : BitVec 16) (s : State) : Except ErrCode State := do
  require (i.toNat < s.cwlen.toNat) .operandRange
  .ok (setRes (zext32 (s.cwAt i.toNat).toNat) s)

/-- `CW_GET` (R253). -/
def execCwGet (i : BitVec 16) (s : State) : Host.Outcome State Fault Refusal :=
  command (.cwGet i) (cwGetBody i) s

end Sys2Proof.Machine
end

