-- ==== Sys2Proof/Machine/Dispatch.lean ====
section
/-! DEFINITION. One arm per command: the meaning of each (spec/30_encoding.md R135). -/
namespace Sys2Proof.Machine

/-- The effect of a command on a state, phase check and errors included (R132 steps 1, 4 and 5). -/
def exec (i : Instr) (s : State) : Host.Outcome State Fault Refusal :=
  match i with
  | .nop => Sys2Proof.Machine.execNop s
  | .sreset => Sys2Proof.Machine.execSreset s
  | .cfgSym ver ecl me => Sys2Proof.Machine.execCfgSym ver ecl me s
  | .gfMul a b => Sys2Proof.Machine.execGfMul a b s
  | .gfExp e => Sys2Proof.Machine.execGfExp e s
  | .gfLog a => Sys2Proof.Machine.execGfLog a s
  | .gfGen r j => Sys2Proof.Machine.execGfGen r j s
  | .bsHead count => Sys2Proof.Machine.execBsHead count s
  | .bsNum3 c2 c1 c0 => Sys2Proof.Machine.execBsNum3 c2 c1 c0 s
  | .bsNum2 c1 c0 => Sys2Proof.Machine.execBsNum2 c1 c0 s
  | .bsNum1 c0 => Sys2Proof.Machine.execBsNum1 c0 s
  | .bsAn2 a b => Sys2Proof.Machine.execBsAn2 a b s
  | .bsAn1 a => Sys2Proof.Machine.execBsAn1 a s
  | .bsByte b => Sys2Proof.Machine.execBsByte b s
  | .bsKanji b1 b0 => Sys2Proof.Machine.execBsKanji b1 b0 s
  | .bsTerm => Sys2Proof.Machine.execBsTerm s
  | .bsAlign => Sys2Proof.Machine.execBsAlign s
  | .bsPad => Sys2Proof.Machine.execBsPad s
  | .bsFinish => Sys2Proof.Machine.execBsFinish s
  | .bsGet idx => Sys2Proof.Machine.execBsGet idx s
  | .bsGetb idx => Sys2Proof.Machine.execBsGetb idx s
  | .rsCfg k r => Sys2Proof.Machine.execRsCfg k r s
  | .rsData d => Sys2Proof.Machine.execRsData d s
  | .rsStep => Sys2Proof.Machine.execRsStep s
  | .rsRun => Sys2Proof.Machine.execRsRun s
  | .rsGet idx => Sys2Proof.Machine.execRsGet idx s
  | .synClr r => Sys2Proof.Machine.execSynClr r s
  | .synIn b => Sys2Proof.Machine.execSynIn b s
  | .synGet j => Sys2Proof.Machine.execSynGet j s
  | .synOk => Sys2Proof.Machine.execSynOk s
  | .eccRun => Sys2Proof.Machine.execEccRun s
  | .blkGet b idx => Sys2Proof.Machine.execBlkGet b idx s
  | .cwGet idx => Sys2Proof.Machine.execCwGet idx s
  | .mxInit => Sys2Proof.Machine.execMxInit s
  | .mxFinder => Sys2Proof.Machine.execMxFinder s
  | .mxTiming => Sys2Proof.Machine.execMxTiming s
  | .mxAlign => Sys2Proof.Machine.execMxAlign s
  | .mxReserve => Sys2Proof.Machine.execMxReserve s
  | .mxFunc => Sys2Proof.Machine.execMxFunc s
  | .mxGet row col => Sys2Proof.Machine.execMxGet row col s
  | .mxPix row col => Sys2Proof.Machine.execMxPix row col s
  | .plStart => Sys2Proof.Machine.execPlStart s
  | .plNext => Sys2Proof.Machine.execPlNext s
  | .plBit => Sys2Proof.Machine.execPlBit s
  | .plRun => Sys2Proof.Machine.execPlRun s
  | .mkApply m => Sys2Proof.Machine.execMkApply m s
  | .mkPen k => Sys2Proof.Machine.execMkPen k s
  | .mkSelect => Sys2Proof.Machine.execMkSelect s
  | .mkBit m row col => Sys2Proof.Machine.execMkBit m row col s
  | .mkTrial m => Sys2Proof.Machine.execMkTrial m s
  | .fmtWord e m => Sys2Proof.Machine.execFmtWord e m s
  | .verWord v => Sys2Proof.Machine.execVerWord v s
  | .mdFmt m => Sys2Proof.Machine.execMdFmt m s
  | .mdVer => Sys2Proof.Machine.execMdVer s

end Sys2Proof.Machine
end

