-- ==== Sys2Proof/Machine/HostPort.lean ====
section
/-! DEFINITION. The host's side: issuing a command word (spec/30_encoding.md R132) and the register map
(spec/20_memory.md R100 to R103). -/
namespace Sys2Proof.Machine

/-- `issue(w)`: in `ERROR` only the exact word of `SRESET` acts; a word that is no command raises `IllegalCommand`;
else the command runs (R132, R375). -/
def issue (w : Word) (s : State) : Host.Outcome State Fault Refusal :=
  if s.phase = .error then
    if w = 0x01000000#32 then .next (resetState s) else .next s
  else match decode w with
    | .error _ => .next (raise .illegalCommand w s)
    | .ok i => exec i s

/-- A field value placed at bit `lo` of a register (R101). -/
def fieldAt (lo v : Nat) : Word := BitVec.ofNat 32 v <<< lo

/-- `STATUS`, offset `0x04` (R101). -/
def statusReg (s : State) : Word :=
  fieldAt 0 s.phase.code ||| fieldAt 4 s.err.code ||| fieldAt 8 s.fnmask.toNat ||| fieldAt 12 (appliedCode s.applied)
    ||| fieldAt 16 (flagCode s.tail)

/-- `SYMCFG`, offset `0x10` (R101). -/
def symcfgReg (s : State) : Word :=
  fieldAt 0 s.ver.toNat ||| fieldAt 8 s.ecl.code ||| fieldAt 12 s.mode.code ||| fieldAt 16 s.enc.code
    ||| fieldAt 24 s.size

/-- `PKCNT`, offset `0x18` (R101). -/
def pkcntReg (s : State) : Word := fieldAt 0 s.decl.toNat ||| fieldAt 16 s.chars.toNat

/-- `RSSTAT`, offset `0x1C` (R101). -/
def rsstatReg (s : State) : Word :=
  fieldAt 0 s.rsK.toNat ||| fieldAt 8 s.rsR.toNat ||| fieldAt 16 s.rsFill.toNat ||| fieldAt 24 s.rsHead.toNat

/-- `PLPOS`, offset `0x20` (R101). -/
def plposReg (s : State) : Word :=
  fieldAt 0 s.plRow.toNat ||| fieldAt 8 s.plColpair.toNat ||| fieldAt 16 s.plDir.code ||| fieldAt 17 s.plSide.code
    ||| fieldAt 18 (flagCode s.plDone)

/-- `PLCNT`, offset `0x24` (R101). -/
def plcntReg (s : State) : Word := fieldAt 0 s.bitpos.toNat ||| fieldAt 16 s.cwlen.toNat

/-- What a read of an aligned offset returns: a live view of the state; `CMD` and reserved offsets read 0 (R101,
R102). -/
def hostRead (off : Nat) (s : State) : Word :=
  if off = 0x04 then statusReg s
  else if off = 0x08 then s.res
  else if off = 0x0C then s.errcmd
  else if off = 0x10 then symcfgReg s
  else if off = 0x14 then fieldAt 0 s.bitlen.toNat
  else if off = 0x18 then pkcntReg s
  else if off = 0x1C then rsstatReg s
  else if off = 0x20 then plposReg s
  else if off = 0x24 then plcntReg s
  else if off = 0x28 then fieldAt 0 s.bestmask.toNat
  else if off = 0x2C then s.bestscore
  else if off = 0x30 then fieldAt 0 s.synR.toNat
  else 0

/-- A write of an aligned offset: `CMD` executes the word, every other offset ignores it (R101, R102). -/
def hostWrite (off : Nat) (v : Word) (s : State) : Host.Outcome State Fault Refusal :=
  if off = 0x00 then issue v s else .next s

/-- One aligned 32-bit word: the only access with a meaning (R103). -/
def supportedAccess (off bytes : Nat) : Bool := bytes = 4 && off % 4 = 0

/-- Serve one access of the host, already taken off the list (R103, R110, R400). -/
def hostAccess (a : HostAccess) (s : State) : Host.Outcome State Fault Refusal :=
  match a with
  | .write off bytes v =>
    if supportedAccess off bytes = true then hostWrite off v s else .refused .unsupportedAccess
  | .read off bytes =>
    if supportedAccess off bytes = true then .next { s with replies := s.replies ++ [hostRead off s] }
    else .refused .unsupportedAccess
  | .hardReset => .next (resetState s)

/-- Serve the oldest access of the host; with none, wait (R110, R401). -/
def serveHost (s : State) : Host.Outcome State Fault Refusal :=
  match s.pending with
  | [] => .next s
  | a :: rest => hostAccess a { s with pending := rest }

/-- The write to `CMD` that issues a word (R10). -/
def cmdWrite (w : Word) : HostAccess := .write 0x00 4 w

end Sys2Proof.Machine
end

