-- ==== Sys2Proof/Machine/Step.lean ====
section
/-! DEFINITION. One step of QRCORE: serve the next access of the host (spec/20_memory.md R110). -/
namespace Sys2Proof.Machine

/-- One step. QRCORE fetches nothing; what it runs is what the host writes to `CMD` (R22, R112). -/
def step (s : State) : Host.Outcome State Fault Refusal := serveHost s

/-- The state in which the next access of the host is the write to `CMD` of the instruction whose bits are `w`
(notes/assumptions/1.md). -/
def State.withFetchWord (s : State) (nbits w : Nat) : State :=
  { s with pending := cmdWrite (tableWord nbits w) :: s.pending }

end Sys2Proof.Machine
end

