-- ==== Sys2Proof/Machine/Assembler.lean ====
section
/-! DEFINITION. The assembler of spec/30_encoding.md section 5: one command a line, symbolic operands, the two
pseudo-commands, and the canonical program (R140 to R143). Details of the text the spec leaves open are in
notes/assumptions/15.md. -/
namespace Sys2Proof.Machine

/-! Commands as mnemonic and operands (R140). -/

/-- The upper-case name of a command (R135, R140). -/
def mnemonic : Instr → String
  | .nop => "NOP"
  | .sreset => "SRESET"
  | .cfgSym _ _ _ => "CFG_SYM"
  | .gfMul _ _ => "GF_MUL"
  | .gfExp _ => "GF_EXP"
  | .gfLog _ => "GF_LOG"
  | .gfGen _ _ => "GF_GEN"
  | .bsHead _ => "BS_HEAD"
  | .bsNum3 _ _ _ => "BS_NUM3"
  | .bsNum2 _ _ => "BS_NUM2"
  | .bsNum1 _ => "BS_NUM1"
  | .bsAn2 _ _ => "BS_AN2"
  | .bsAn1 _ => "BS_AN1"
  | .bsByte _ => "BS_BYTE"
  | .bsKanji _ _ => "BS_KANJI"
  | .bsTerm => "BS_TERM"
  | .bsAlign => "BS_ALIGN"
  | .bsPad => "BS_PAD"
  | .bsFinish => "BS_FINISH"
  | .bsGet _ => "BS_GET"
  | .bsGetb _ => "BS_GETB"
  | .rsCfg _ _ => "RS_CFG"
  | .rsData _ => "RS_DATA"
  | .rsStep => "RS_STEP"
  | .rsRun => "RS_RUN"
  | .rsGet _ => "RS_GET"
  | .synClr _ => "SYN_CLR"
  | .synIn _ => "SYN_IN"
  | .synGet _ => "SYN_GET"
  | .synOk => "SYN_OK"
  | .eccRun => "ECC_RUN"
  | .blkGet _ _ => "BLK_GET"
  | .cwGet _ => "CW_GET"
  | .mxInit => "MX_INIT"
  | .mxFinder => "MX_FINDER"
  | .mxTiming => "MX_TIMING"
  | .mxAlign => "MX_ALIGN"
  | .mxReserve => "MX_RESERVE"
  | .mxFunc => "MX_FUNC"
  | .mxGet _ _ => "MX_GET"
  | .mxPix _ _ => "MX_PIX"
  | .plStart => "PL_START"
  | .plNext => "PL_NEXT"
  | .plBit => "PL_BIT"
  | .plRun => "PL_RUN"
  | .mkApply _ => "MK_APPLY"
  | .mkPen _ => "MK_PEN"
  | .mkSelect => "MK_SELECT"
  | .mkBit _ _ _ => "MK_BIT"
  | .mkTrial _ => "MK_TRIAL"
  | .fmtWord _ _ => "FMT_WORD"
  | .verWord _ => "VER_WORD"
  | .mdFmt _ => "MD_FMT"
  | .mdVer => "MD_VER"

/-- The operands of a command, leftmost operand first (R140). -/
def operands : Instr → List Nat
  | .nop => []
  | .sreset => []
  | .cfgSym ver ecl me => [ver.toNat, ecl.toNat, me.toNat]
  | .gfMul a b => [a.toNat, b.toNat]
  | .gfExp e => [e.toNat]
  | .gfLog a => [a.toNat]
  | .gfGen r j => [r.toNat, j.toNat]
  | .bsHead count => [count.toNat]
  | .bsNum3 c2 c1 c0 => [c2.toNat, c1.toNat, c0.toNat]
  | .bsNum2 c1 c0 => [c1.toNat, c0.toNat]
  | .bsNum1 c0 => [c0.toNat]
  | .bsAn2 a b => [a.toNat, b.toNat]
  | .bsAn1 a => [a.toNat]
  | .bsByte b => [b.toNat]
  | .bsKanji b1 b0 => [b1.toNat, b0.toNat]
  | .bsTerm => []
  | .bsAlign => []
  | .bsPad => []
  | .bsFinish => []
  | .bsGet i => [i.toNat]
  | .bsGetb i => [i.toNat]
  | .rsCfg k r => [k.toNat, r.toNat]
  | .rsData d => [d.toNat]
  | .rsStep => []
  | .rsRun => []
  | .rsGet i => [i.toNat]
  | .synClr r => [r.toNat]
  | .synIn b => [b.toNat]
  | .synGet j => [j.toNat]
  | .synOk => []
  | .eccRun => []
  | .blkGet b i => [b.toNat, i.toNat]
  | .cwGet i => [i.toNat]
  | .mxInit => []
  | .mxFinder => []
  | .mxTiming => []
  | .mxAlign => []
  | .mxReserve => []
  | .mxFunc => []
  | .mxGet row col => [row.toNat, col.toNat]
  | .mxPix row col => [row.toNat, col.toNat]
  | .plStart => []
  | .plNext => []
  | .plBit => []
  | .plRun => []
  | .mkApply m => [m.toNat]
  | .mkPen k => [k.toNat]
  | .mkSelect => []
  | .mkBit m row col => [m.toNat, row.toNat, col.toNat]
  | .mkTrial m => [m.toNat]
  | .fmtWord e m => [e.toNat, m.toNat]
  | .verWord v => [v.toNat]
  | .mdFmt m => [m.toNat]
  | .mdVer => []

/-- An 8-bit operand field takes a number below 256 (R130). -/
def byteOperand (n : Nat) : Option Byte := if n < 256 then some (BitVec.ofNat 8 n) else none

/-- The half-word operand takes a number below 65536 (R130). -/
def halfOperand (n : Nat) : Option (BitVec 16) := if n < 65536 then some (BitVec.ofNat 16 n) else none

/-- A command without operands. -/
def asmZ (i : Instr) : List Nat → Option Instr
  | [] => some i
  | _ => none

/-- A command with one byte operand. -/
def asmC1 (k : Byte → Instr) : List Nat → Option Instr
  | [a] => do return k (← byteOperand a)
  | _ => none

/-- A command with two byte operands. -/
def asmC2 (k : Byte → Byte → Instr) : List Nat → Option Instr
  | [a, b] => do return k (← byteOperand a) (← byteOperand b)
  | _ => none

/-- A command with three byte operands. -/
def asmC3 (k : Byte → Byte → Byte → Instr) : List Nat → Option Instr
  | [a, b, c] => do return k (← byteOperand a) (← byteOperand b) (← byteOperand c)
  | _ => none

/-- A command with a half-word operand. -/
def asmH (k : BitVec 16 → Instr) : List Nat → Option Instr
  | [a] => do return k (← halfOperand a)
  | _ => none

/-- The command of a mnemonic and its operand numbers (R135, R140). -/
def assemble (name : String) : List Nat → Option Instr :=
  match name with
  | "NOP" => asmZ .nop
  | "SRESET" => asmZ .sreset
  | "CFG_SYM" => asmC3 .cfgSym
  | "GF_MUL" => asmC2 .gfMul
  | "GF_EXP" => asmC1 .gfExp
  | "GF_LOG" => asmC1 .gfLog
  | "GF_GEN" => asmC2 .gfGen
  | "BS_HEAD" => asmH .bsHead
  | "BS_NUM3" => asmC3 .bsNum3
  | "BS_NUM2" => asmC2 .bsNum2
  | "BS_NUM1" => asmC1 .bsNum1
  | "BS_AN2" => asmC2 .bsAn2
  | "BS_AN1" => asmC1 .bsAn1
  | "BS_BYTE" => asmC1 .bsByte
  | "BS_KANJI" => asmC2 .bsKanji
  | "BS_TERM" => asmZ .bsTerm
  | "BS_ALIGN" => asmZ .bsAlign
  | "BS_PAD" => asmZ .bsPad
  | "BS_FINISH" => asmZ .bsFinish
  | "BS_GET" => asmH .bsGet
  | "BS_GETB" => asmH .bsGetb
  | "RS_CFG" => asmC2 .rsCfg
  | "RS_DATA" => asmC1 .rsData
  | "RS_STEP" => asmZ .rsStep
  | "RS_RUN" => asmZ .rsRun
  | "RS_GET" => asmC1 .rsGet
  | "SYN_CLR" => asmC1 .synClr
  | "SYN_IN" => asmC1 .synIn
  | "SYN_GET" => asmC1 .synGet
  | "SYN_OK" => asmZ .synOk
  | "ECC_RUN" => asmZ .eccRun
  | "BLK_GET" => asmC2 .blkGet
  | "CW_GET" => asmH .cwGet
  | "MX_INIT" => asmZ .mxInit
  | "MX_FINDER" => asmZ .mxFinder
  | "MX_TIMING" => asmZ .mxTiming
  | "MX_ALIGN" => asmZ .mxAlign
  | "MX_RESERVE" => asmZ .mxReserve
  | "MX_FUNC" => asmZ .mxFunc
  | "MX_GET" => asmC2 .mxGet
  | "MX_PIX" => asmC2 .mxPix
  | "PL_START" => asmZ .plStart
  | "PL_NEXT" => asmZ .plNext
  | "PL_BIT" => asmZ .plBit
  | "PL_RUN" => asmZ .plRun
  | "MK_APPLY" => asmC1 .mkApply
  | "MK_PEN" => asmC1 .mkPen
  | "MK_SELECT" => asmZ .mkSelect
  | "MK_BIT" => asmC3 .mkBit
  | "MK_TRIAL" => asmC1 .mkTrial
  | "FMT_WORD" => asmC2 .fmtWord
  | "VER_WORD" => asmC1 .verWord
  | "MD_FMT" => asmC1 .mdFmt
  | "MD_VER" => asmZ .mdVer
  | _ => fun _ => none

/-! Pseudo-commands (R142) and the canonical program (R143). -/

/-- Groups of three digits, then the remainder (R142). -/
def numericGroups : List Byte → List Instr
  | a :: b :: c :: rest => .bsNum3 a b c :: numericGroups rest
  | [a, b] => [.bsNum2 a b]
  | [a] => [.bsNum1 a]
  | [] => []

/-- Pairs of characters, then a trailing one (R142). -/
def alphanumericGroups : List Byte → List Instr
  | a :: b :: rest => .bsAn2 a b :: alphanumericGroups rest
  | [a] => [.bsAn1 a]
  | [] => []

/-- Byte pairs; an odd number of bytes has no expansion (R142). -/
def kanjiGroups : List Byte → Option (List Instr)
  | a :: b :: rest => do return .bsKanji a b :: (← kanjiGroups rest)
  | [_] => none
  | [] => some []

/-- The expansion of `BS_TEXT` in a mode (R142). -/
def bsText (m : Mode) (bytes : List Byte) : Option (List Instr) :=
  match m with
  | .numeric => some (numericGroups bytes)
  | .alphanumeric => some (alphanumericGroups bytes)
  | .byte => some (bytes.map .bsByte)
  | .kanji => kanjiGroups bytes

/-- The expansion of `BUILD` (R142). -/
def build : List Instr := [.bsFinish, .eccRun, .mxInit, .mxFunc, .plRun, .mkSelect, .mdVer]

/-- The characters `BS_HEAD` counts: bytes, or byte pairs in Kanji mode (R200, R143). -/
def characterCount (m : Mode) (bytes : List Byte) : Nat :=
  match m with
  | .kanji => bytes.length / 2
  | _ => bytes.length

/-- The header and the payload commands of a content, the part of the canonical program before `BUILD` (R143). -/
def contentProgram (ver ecl me : Byte) (bytes : List Byte) : Option (List Instr) := do
  let m := Mode.ofCode (me.toNat % 4)
  let payload ← bsText m bytes
  let count ← halfOperand (characterCount m bytes)
  return [.cfgSym ver ecl me, .bsHead count] ++ payload

/-- `MX_PIX r, c` for every `r, c < SIZE`, row by row: the host reads the finished symbol (R143, R283). -/
def exportProgram (ver : Byte) : List Instr :=
  let size := 17 + 4 * ver.toNat
  (List.range size).flatMap fun r => (List.range size).map fun c => .mxPix (BitVec.ofNat 8 r) (BitVec.ofNat 8 c)

/-- The sequence of commands that builds one symbol and reads it, first choice at every line of the listing (R143). -/
def canonicalProgram (ver ecl me : Byte) (bytes : List Byte) : Option (List Instr) := do
  return (← contentProgram ver ecl me bytes) ++ build ++ exportProgram ver

/-- Everything the listing of R143 allows between the payload and the export, its "or" alternatives included: the three
finishing commands for `BS_FINISH`, the four pattern commands in any order for `MX_FUNC`, and `PL_START` with `PL_BIT`
repeated, `slen` times in all, for `PL_RUN`. -/
def IsBuild (slen : Nat) (p : List Instr) : Prop :=
  ∃ finish patterns placement : List Instr,
    (finish = [.bsFinish] ∨ finish = [.bsTerm, .bsAlign, .bsPad]) ∧
    (patterns = [.mxFunc] ∨ patterns.Perm [.mxFinder, .mxTiming, .mxAlign, .mxReserve]) ∧
    (placement = [.plRun] ∨ placement = .plStart :: List.replicate slen .plBit) ∧
    p = finish ++ [.eccRun, .mxInit] ++ patterns ++ placement ++ [.mkSelect, .mdVer]

/-- A host that issues the commands of a program, one after the other. -/
def loadProgram (p : List Instr) (s : State) : State :=
  { s with pending := s.pending ++ p.map fun i => cmdWrite (encode i) }

/-! Text (R140, R141). A program text is a sequence of bytes, a line the bytes between two line ends: the text operand of
`BS_TEXT` is a sequence of bytes (R142), and in Shift-JIS or UTF-8 most of them are no ASCII characters. -/

/-- The ASCII character of a byte; a byte from 0x80 on is no character of a name, a number or white space. -/
def charOf (b : Byte) : Char := Char.ofNat b.toNat

/-- A string as the bytes of a line: its UTF-8 encoding, which for ASCII is one byte a character. -/
def lineBytes (s : String) : List Byte := s.toUTF8.toList.map fun b => BitVec.ofNat 8 b.toNat

/-- One item of a line. -/
inductive Token where
  | word (s : String)
  | number (n : Nat)
  | text (bytes : List Byte)
  | comma
deriving DecidableEq, Repr

/-- The value of a digit character in a base. -/
def digitValue (base : Nat) (c : Char) : Option Nat :=
  let n := c.toNat
  let v := if 48 ≤ n ∧ n ≤ 57 then n - 48 else if 65 ≤ n ∧ n ≤ 70 then n - 55 else if 97 ≤ n ∧ n ≤ 102 then n - 87 else 16
  if v < base then some v else none

/-- The number with the given digits. -/
def digitsValue (base : Nat) : List Char → Nat → Option Nat
  | [], acc => some acc
  | c :: cs, acc => do digitsValue base cs (acc * base + (← digitValue base c))

/-- A number: decimal, or hexadecimal with `0x` (R140). -/
def numberOf : List Char → Option Nat
  | '0' :: 'x' :: c :: cs => digitsValue 16 (c :: cs) 0
  | c :: cs => digitsValue 10 (c :: cs) 0
  | [] => none

/-- A character of a name or a number. -/
def isWordByte (b : Byte) : Bool := (charOf b).isAlphanum || charOf b = '_'

/-- The items of a line; `;` starts a comment (R140). Between quotation marks stands any sequence of other bytes (R142);
a character in single quotes stands for its ASCII code. Each round consumes a byte, so `fuel` is the line's length. -/
def lex : (fuel : Nat) → List Byte → Option (List Token)
  | 0, _ => some []
  | _, [] => some []
  | fuel + 1, b :: bs =>
    let c := charOf b
    if c = ';' then some []
    else if c.isWhitespace then lex fuel bs
    else if c = ',' then do return .comma :: (← lex fuel bs)
    else if c = '\'' then
      match bs with
      | x :: q :: rest =>
        if x.toNat < 128 ∧ charOf q = '\'' then do return .number x.toNat :: (← lex fuel rest) else none
      | _ => none
    else if c = '"' then
      let body := bs.takeWhile fun x => charOf x ≠ '"'
      match bs.drop body.length with
      | _ :: rest => do return .text body :: (← lex fuel rest)
      | [] => none
    else if isWordByte b then
      let body := (b :: bs.takeWhile isWordByte).map charOf
      let rest := bs.drop (body.length - 1)
      if c.isDigit then do return .number (← numberOf body) :: (← lex fuel rest)
      else do return .word (String.ofList body) :: (← lex fuel rest)
    else none

/-- The number a name stands for: levels anywhere, modes as the third operand of `CFG_SYM` (R141). -/
def symbolValue (command : String) (position : Nat) (name : String) : Option Nat :=
  match name with
  | "L" => some 0
  | "M" => some 1
  | "Q" => some 2
  | "H" => some 3
  | _ =>
    if command = "CFG_SYM" ∧ position = 2 then
      match name with
      | "NUM" => some 0
      | "AN" => some 1
      | "BYTE" => some 2
      | "KANJI" => some 3
      | "BYTE_UTF8" => some 6
      | _ => none
    else none

/-- Operands separated by commas (R140). -/
def operandNumbers (command : String) : (position : Nat) → List Token → Option (List Nat)
  | _, [] => some []
  | _, [.number n] => some [n]
  | p, [.word s] => do return [← symbolValue command p s]
  | p, .number n :: .comma :: t :: ts => do return n :: (← operandNumbers command (p + 1) (t :: ts))
  | p, .word s :: .comma :: t :: ts => do
    let n ← symbolValue command p s
    return n :: (← operandNumbers command (p + 1) (t :: ts))
  | _, _ => none

/-- The commands of one line, given the mode of the nearest preceding `CFG_SYM` (R140, R142). -/
def assembleLine (mode : Option Mode) (line : List Byte) : Option (List Instr) := do
  let ts ← lex line.length line
  match ts with
  | [] => return []
  | .word "BS_TEXT" :: rest =>
    match rest with
    | [.text bytes] => bsText (← mode) bytes
    | _ => none
  | .word "BUILD" :: rest => if rest = [] then return build else none
  | .word name :: rest => return [← assemble name (← operandNumbers name 0 rest)]
  | _ => none

/-- The mode after a command: that of the nearest preceding `CFG_SYM` of the program text (R142). -/
def modeAfter (mode : Option Mode) : List Instr → Option Mode
  | [.cfgSym _ _ me] => some (Mode.ofCode (me.toNat % 4))
  | _ => mode

/-- The commands of a program text, line by line. -/
def assembleLines : Option Mode → List (List Byte) → Option (List Instr)
  | _, [] => some []
  | mode, line :: lines => do
    let is ← assembleLine mode line
    return is ++ (← assembleLines (modeAfter mode is) lines)

/-- The command words of a program text. -/
def assembleProgram (lines : List (List Byte)) : Option (List Word) := do
  return (← assembleLines none lines).map encode

end Sys2Proof.Machine
end

