-- ==== Sys2Proof/Safety.lean ====
section
/-! DEFINITION. The terms claims are stated in: sequences of commands, well-formed parameters (spec/11_rom_tables.md R85,
R89, R90), coherent states (spec/10_state.md R24, R28, R30, R35, R46; spec/48_arithmetic_and_sequencing.md R390), and
closed forms of the spec's tables and patterns to compare the machine with. -/
namespace Sys2Proof

/-- The conditions R85 puts on a record, with the sizes R6 fixes. -/
def VSpec.wf (x : VSpec) : Bool :=
  Machine.validR.contains x.r && 1 ≤ x.n1 && 1 ≤ x.d1 && (x.n2 = 0 || 1 ≤ x.d2)
    && x.d1 + x.r ≤ 255 && (x.n2 = 0 || x.d2 + x.r ≤ 255) && x.n1 + x.n2 ≤ 81
    && x.n1 * (x.d1 + x.r) + x.n2 * (x.d2 + x.r) = x.total && x.dataBytes ≤ 2956 && x.total ≤ 3706

/-- The conditions R89 puts on the list of a version: none for version 1, else from 6 to `SIZE - 7` in steps of at
least 5. -/
def alignListWf (v : Nat) (a : List Nat) : Bool :=
  if v = 1 then a = []
  else a.head? = some 6 && a.getLast? = some (4 * v + 10) && (a.zip a.tail).all fun (x, y) => x + 5 ≤ y

/-- Well-formed contents of `ROM_VSPEC` and `ROM_ALIGN`, one entry for each of the 40 versions (R85, R89). -/
def Params.blocksWf (p : Params) : Bool :=
  (List.range' 1 40).all fun v =>
    ((List.range 4).all fun e => (Machine.vspecAt p v e).wf && (Machine.vspecAt p v e).total = (Machine.vspecAt p v 0).total)
      && alignListWf v (Machine.alignAt p v)

/-- The number of modules `MX_FUNC` leaves `Unset` in the blank grid of version `v` (R88, R90). -/
def Params.unsetModules (p : Params) (v : Nat) : Nat :=
  let n := 17 + 4 * v
  let s := { Machine.State.reset with
    params := p, ver := BitVec.ofNat 6 v, grid := List.replicate n (List.replicate n .unset) }
  ((Machine.mxFuncOp s).grid.map (·.count .unset)).sum

/-- Well-formed contents of `ROM_REMBITS`: `8*TOTAL + ROM_REMBITS[v]` is the number of modules the function patterns
leave `Unset` (R90). `TOTAL` is the same for the four levels of a version (R85). -/
def Params.rembitsWf (p : Params) : Bool :=
  (List.range' 1 40).all fun v =>
    8 * (Machine.vspecAt p v 0).total + Machine.rembitsAt p v = p.unsetModules v

/-- Well-formed contents of the three parameter tables (R85, R89, R90). -/
def Params.wf (p : Params) : Bool := p.blocksWf && p.rembitsWf

namespace Machine

/-- Commands one after the other. -/
def execAll : List Instr → State → Host.Outcome State Fault Refusal
  | [], s => .next s
  | i :: is, s =>
    match exec i s with
    | .next t => execAll is t
    | .fault r => .fault r
    | .refused r => .refused r

/-! The opcode table, for comparison with the decoder. -/

/-- Every assigned opcode with the reserved bits of its format, from spec/opcode_table.json (R131, R135, R137). -/
def opcodeTable : List (Byte × Word) :=
  [(0x00, 0x00FFFFFF), (0x01, 0x00FFFFFF), (0x02, 0x000000F8), (0x10, 0x00FF0000), (0x11, 0x00FFFF00), (0x12, 0x00FFFF00),
    (0x13, 0x00FF0000)]
  ++ [(0x20, 0x00FF0000), (0x21, 0x00000000), (0x22, 0x00FF0000), (0x23, 0x00FFFF00), (0x24, 0x00FF0000),
    (0x25, 0x00FFFF00), (0x26, 0x00FFFF00), (0x27, 0x00FF0000), (0x28, 0x00FFFFFF), (0x29, 0x00FFFFFF), (0x2A, 0x00FFFFFF),
    (0x2B, 0x00FFFFFF), (0x2C, 0x00FF0000), (0x2D, 0x00FF0000)]
  ++ [(0x30, 0x00FF0000), (0x31, 0x00FFFF00), (0x32, 0x00FFFFFF), (0x33, 0x00FFFFFF), (0x34, 0x00FFFF00),
    (0x35, 0x00FFFF00), (0x36, 0x00FFFF00), (0x37, 0x00FFFF00), (0x38, 0x00FFFFFF), (0x39, 0x00FFFFFF), (0x3A, 0x00FF0000),
    (0x3B, 0x00FF0000)]
  ++ [(0x40, 0x00FFFFFF), (0x41, 0x00FFFFFF), (0x42, 0x00FFFFFF), (0x43, 0x00FFFFFF), (0x44, 0x00FFFFFF),
    (0x45, 0x00FFFFFF), (0x46, 0x00FF0000), (0x47, 0x00FF0000), (0x50, 0x00FFFFFF), (0x51, 0x00FFFFFF), (0x52, 0x00FFFFFF),
    (0x53, 0x00FFFFFF)]
  ++ [(0x60, 0x00FFFF00), (0x61, 0x00FFFF00), (0x62, 0x00FFFFFF), (0x63, 0x00000000), (0x64, 0x00FFFF00),
    (0x70, 0x00FF0000), (0x71, 0x00FFFF00), (0x72, 0x00FFFF00), (0x73, 0x00FFFFFF)]

/-- The phase after a command that succeeds, where the table of R47 has an arrow that does not depend on more than the
command. -/
def arrow : Instr → Option Phase
  | .sreset => some .idle
  | .cfgSym _ _ _ => some .configured
  | .bsHead _ => some .payload
  | .bsTerm => some .terminated
  | .bsAlign => some .aligned
  | .bsPad => some .packed
  | .bsFinish => some .packed
  | .eccRun => some .coded
  | .mxInit => some .matrix
  | .plStart => some .placing
  | .plRun => some .placed
  | .mkSelect => some .selected
  | .mdVer => some .done
  | _ => none

/-- The commands that copy a value into `RES` (the rules that say `RES <- ...`; R25). -/
def isQuery : Instr → Bool
  | .gfMul _ _ | .gfExp _ | .gfLog _ | .gfGen _ _ => true
  | .bsGet _ | .bsGetb _ | .rsGet _ | .synGet _ | .synOk | .blkGet _ _ | .cwGet _ => true
  | .mxGet _ _ | .mxPix _ _ | .mkPen _ | .mkBit _ _ _ | .mkTrial _ | .fmtWord _ _ | .verWord _ => true
  | _ => false

/-- The five user-facing kinds, codes 1 to 5 (R370, R377). -/
def userFacing (e : ErrCode) : Bool := 1 ≤ e.code && e.code ≤ 5

/-- The phases, by number, in which the table of R47 marks a command ("any" is 0 to 11; `SRESET` is legal in 15 too). -/
def legalPhases (i : Instr) : List Nat :=
  match mnemonic i with
  | "SRESET" => List.range 12 ++ [15]
  | "CFG_SYM" => [0]
  | "BS_HEAD" => [1]
  | "BS_NUM3" | "BS_NUM2" | "BS_NUM1" | "BS_AN2" | "BS_AN1" | "BS_BYTE" | "BS_KANJI" | "BS_TERM" | "BS_FINISH" => [2]
  | "BS_ALIGN" => [3]
  | "BS_PAD" => [4]
  | "BS_GET" | "BS_GETB" => [1, 2, 3, 4, 5, 6, 7, 8, 9, 10, 11]
  | "ECC_RUN" => [5]
  | "BLK_GET" | "CW_GET" => [6, 7, 8, 9, 10, 11]
  | "MX_INIT" => [6]
  | "MX_FINDER" | "MX_TIMING" | "MX_ALIGN" | "MX_RESERVE" | "MX_FUNC" | "PL_START" => [7]
  | "MX_GET" => [7, 8, 9, 10, 11]
  | "MX_PIX" => [11]
  | "PL_NEXT" | "PL_BIT" => [8]
  | "PL_RUN" => [7, 8]
  | "MK_APPLY" | "MD_FMT" | "MK_SELECT" => [9]
  | "MK_PEN" => [9, 10, 11]
  | "MK_TRIAL" => [10, 11]
  | "MD_VER" => [10]
  | _ => List.range 12

/-- The unassigned values of `op`, as R136 lists them. -/
def unassignedOpcode (op : Nat) : Bool :=
  (0x03 ≤ op && op ≤ 0x0F) || (0x14 ≤ op && op ≤ 0x1F) || op = 0x2E || op = 0x2F || (0x3C ≤ op && op ≤ 0x3F)
    || (0x48 ≤ op && op ≤ 0x4F) || (0x54 ≤ op && op ≤ 0x5F) || (0x65 ≤ op && op ≤ 0x6F) || (0x74 ≤ op && op ≤ 0xFF)

/-! What a command answers. -/

/-- The command raises `e`: its word is recorded, the phase is `ERROR`, nothing else changes (R374). -/
def Raises (i : Instr) (s : State) (e : ErrCode) : Prop :=
  exec i s = .next { s with err := e, errcmd := encode i, phase := .error }

/-- From `s` to `t` exactly the bits `bs` have been put at the end of the bit stream; every other bit reads as before
(R105, R193). -/
def Appends (s t : State) (bs : List Bool) : Prop :=
  t.bitlen.toNat = s.bitlen.toNat + bs.length ∧
  ∀ k, t.bitAt k =
    if s.bitlen.toNat ≤ k ∧ k < s.bitlen.toNat + bs.length then bs.getD (k - s.bitlen.toNat) false else s.bitAt k

/-- A payload command for mode `m` in `PAYLOAD`, its checks in the order of R371: the mode, `TAIL`, the characters
(`value` is none where one is refused, with `charErr`), the capacity. With all passed it answers the state with the
`n`-bit value appended, `chars` more characters counted, `TAIL` set where it is a short group, and nothing else
changed. -/
def PayloadRule (i : Instr) (s : State) (m : Mode) (charErr : ErrCode) (value : Option Nat) (n chars : Nat)
    (short : Bool) : Prop :=
  (s.mode ≠ m → Raises i s .sequenceError) ∧
  (s.mode = m → s.tail = true → Raises i s .sequenceError) ∧
  (s.mode = m → s.tail = false → value = none → Raises i s charErr) ∧
  ∀ v, s.mode = m → s.tail = false → value = some v →
    (s.capbits < s.bitlen.toNat + n → Raises i s .capacityExceeded) ∧
    (s.bitlen.toNat + n ≤ s.capbits → ∃ t, exec i s = .next t ∧
      t = { s with
        bitbuf := t.bitbuf, bitlen := t.bitlen, chars := s.chars + BitVec.ofNat 16 chars, tail := short } ∧
      Appends s t (bitsMSB v n))

/-- The state is the one the reset leaves: every register at its value of R400, and the register map reading as R400
says. The array memories are not mentioned: they are unspecified. -/
def AtReset (t : State) : Prop :=
  (t.phase = .idle ∧ t.err = .none ∧ t.errcmd = 0 ∧ t.res = 0 ∧ t.ver = 0 ∧ t.ecl.code = 0 ∧ t.mode.code = 0 ∧
    t.enc.code = 0) ∧
  (t.bitlen = 0 ∧ t.decl = 0 ∧ t.chars = 0 ∧ t.tail = false ∧ t.rsK = 0 ∧ t.rsR = 0 ∧ t.rsFill = 0 ∧ t.rsHead = 0 ∧
    t.synR = 0 ∧ t.cwlen = 0 ∧ t.fnmask = 0) ∧
  (t.plRow = 0 ∧ t.plColpair = 0 ∧ t.plDir.code = 0 ∧ t.plSide.code = 0 ∧ t.plDone = false ∧ t.bitpos = 0 ∧
    appliedCode t.applied = 8 ∧ t.bestmask = 0 ∧ t.bestscore = 0 ∧ ∀ m : Fin 8, t.trial[m] = 0) ∧
  hostRead 0x04 t = 0x00008000#32 ∧ ∀ off, off ≤ 0x30 → off % 4 = 0 → off ≠ 0x04 → hostRead off t = 0

/-! Coherent states. -/

/-- `PHASE` is one of 1 to 11: a symbol is configured and no error was raised. -/
def State.active (s : State) : Prop := 1 ≤ s.phase.code ∧ s.phase.code ≤ 11

/-- `ERR != 0` if and only if `PHASE = ERROR` (R24). -/
def ErrCoherent (s : State) : Prop := s.err ≠ .none ↔ s.phase = .error

/-- The divider's counters, its buffer, and the consumed elements (R30, R31, R231). -/
def RsCoherent (s : State) : Prop :=
  (s.rsR = 0 → s.rsK = 0 ∧ s.rsFill = 0 ∧ s.rsHead = 0) ∧
  (s.rsR ≠ 0 →
    s.rsR.toNat ∈ validR ∧ 1 ≤ s.rsK.toNat ∧ s.rsK.toNat + s.rsR.toNat ≤ 255 ∧
    s.rsFill.toNat ≤ s.rsK.toNat ∧ s.rsHead.toNat ≤ s.rsK.toNat ∧
    (0 < s.rsHead.toNat → s.rsFill = s.rsK) ∧
    s.rsbuf.length = 255 ∧ ∀ i, i < s.rsHead.toNat → s.rsAt i = 0)

/-- The syndrome calculator (R32). -/
def SynCoherent (s : State) : Prop := s.synR.toNat ≤ 30 ∧ (s.synR ≠ 0 → s.syn.length = 30)

/-- The packer: `VER` is a version or 0, the stream is exactly the written bits, within the capacity, byte-aligned and
full when the phase says so (R26, R28, R23). -/
def PackerCoherent (s : State) : Prop :=
  s.ver.toNat ≤ 40 ∧ s.bitbuf.length = s.bitlen.toNat ∧
  (s.phase = .idle → s.bitlen = 0 ∧ s.ver = 0) ∧
  (s.active → 1 ≤ s.ver.toNat ∧ s.ver.toNat ≤ 40 ∧ s.bitlen.toNat ≤ s.capbits) ∧
  (s.phase = .aligned → s.bitlen.toNat % 8 = 0) ∧
  (s.active → Phase.packed.code ≤ s.phase.code → s.bitlen.toNat = s.capbits)

/-- The parity and codeword memories: absent before `CODED`, filled exactly from then on (R33, R34). -/
def CodeCoherent (s : State) : Prop :=
  (s.phase.code < Phase.coded.code → s.par = [] ∧ s.cw = [] ∧ s.cwlen = 0) ∧
  (s.active → Phase.coded.code ≤ s.phase.code →
    s.cwlen.toNat = s.vspec.total ∧ s.cw.length = s.vspec.total ∧
    s.par.length = s.vspec.nb ∧ ∀ row ∈ s.par, row.length = s.vspec.r)

/-- A grid of `n` rows of `n` modules. -/
def Square (n : Nat) (g : List (List Module)) : Prop := g.length = n ∧ ∀ row ∈ g, row.length = n

/-- The grid: absent before `MATRIX`, `SIZE` by `SIZE` from then on, without `Unset` from `PLACED` on (R35). -/
def GridCoherent (s : State) : Prop :=
  (s.phase.code < Phase.matrix.code → s.grid = []) ∧
  (s.active → Phase.matrix.code ≤ s.phase.code → Square s.size s.grid) ∧
  (s.active → Phase.placed.code ≤ s.phase.code → s.noUnset = true)

/-- The placer's position while it runs, and how many bits it has placed (R37, R38, R301, R390). -/
def PlacerCoherent (s : State) : Prop :=
  (s.phase = .placing →
    s.plRow.toNat < s.size ∧ 1 ≤ s.plColpair.toNat ∧ s.plColpair.toNat < s.size ∧
    (s.plColpair.toNat < 6 → s.plColpair.toNat % 2 = 1) ∧
    (6 ≤ s.plColpair.toNat → 8 ≤ s.plColpair.toNat ∧ s.plColpair.toNat % 2 = 0)) ∧
  (s.phase.code < Phase.placing.code → s.bitpos = 0) ∧
  (s.phase = .placing → s.bitpos.toNat < s.slen)

/-- A mask is in the grid only from `PLACED` on, and from `SELECTED` on it is the best one (R39, R334). -/
def MaskCoherent (s : State) : Prop :=
  (s.phase.code < Phase.placed.code → s.applied = none) ∧
  (s.phase = .selected ∨ s.phase = .done → s.applied = some s.bestmask)

/-- A coherent state: what R24, R28, R30 to R40 and R46 promise of every state a run reaches. Of the tables it asks only
what the counters need; a `ROM_REMBITS` that does not match makes the placer raise, and the state stays coherent
(R378). -/
structure Coherent (s : State) : Prop where
  params : s.params.blocksWf = true
  err : ErrCoherent s
  rs : RsCoherent s
  syn : SynCoherent s
  packer : PackerCoherent s
  code : CodeCoherent s
  grid : GridCoherent s
  placer : PlacerCoherent s
  mask : MaskCoherent s

/-! Closed forms to compare the machine with. -/

/-- A sequence of bytes as a polynomial, first byte the highest power, evaluated at `x` by Horner's rule (R240). -/
def polyEval (x : Byte) (c : List Byte) : Byte := c.foldl (fun acc b => gfMul acc x ^^^ b) 0

/-- `x` to the power `n` in the field. -/
def gfPow (x : Byte) : Nat → Byte
  | 0 => 1
  | n + 1 => gfMul (gfPow x n) x

/-- The sum over `i` of `c[i] * x^(n-1-i)`, `n` the length of `c`: a received sequence evaluated at `x` (R240). -/
def powerSum (x : Byte) : List Byte → Byte
  | [] => 0
  | b :: c => gfMul b (gfPow x c.length) ^^^ powerSum x c

/-- The elements of `RSBUF` in use (R31). -/
def State.rsInUse (s : State) : List Byte := (List.range (s.rsK.toNat + s.rsR.toNat)).map s.rsAt

/-- The data codewords of block `b` (R87, R194). -/
def State.blockData (s : State) (b : Nat) : List Byte :=
  (List.range (s.vspec.blkLen b)).map fun i => s.dbyte (s.vspec.blkOff b + i)

/-- The parity codewords of block `b` (R33). -/
def State.blockParity (s : State) (b : Nat) : List Byte := (List.range s.vspec.r).map (s.parAt b)

/-- Where the data codeword of block `b` in column `col` stands in `CW`: after the codewords of the columns before, and
after those of the blocks before it that reach this column (R251). -/
def dataPosition (x : VSpec) (b col : Nat) : Nat :=
  ((List.range x.nb).map fun k => min col (x.blkLen k)).sum + ((List.range b).filter fun k => col < x.blkLen k).length

/-- Where the parity codeword of block `b` in column `col` stands in `CW`: after all data codewords (R251). -/
def parityPosition (x : VSpec) (b col : Nat) : Nat := x.dataBytes + col * x.nb + b

/-- The field of `w` that spans `n` bits from bit `lo` on (R8). -/
def bitField (w : Word) (lo n : Nat) : Nat := (w >>> lo).toNat % 2 ^ n

/-- The ring pattern of a 7x7 finder, rows and columns 0 to 6: dark unless `max(|dr-3|, |dc-3|) = 2` (R273). -/
def finderRing (dr dc : Nat) : Bool := decide (max ((dr : Int) - 3).natAbs ((dc : Int) - 3).natAbs ≠ 2)

/-- What the finder patterns and separators put at `(r, c)` (R273): each 8x8 corner region is light but for the
7x7 finder in its outer corner. -/
def finderValue (size r c : Nat) : Option Bool :=
  if r < 8 ∧ c < 8 then some (decide (r < 7 ∧ c < 7) && finderRing r c)
  else if r < 8 ∧ size - 8 ≤ c ∧ c < size then some (decide (r < 7 ∧ size - 7 ≤ c) && finderRing r (c - (size - 7)))
  else if size - 8 ≤ r ∧ r < size ∧ c < 8 then some (decide (size - 7 ≤ r ∧ c < 7) && finderRing (r - (size - 7)) c)
  else none

/-- What the timing patterns put at `(r, c)` (R274). -/
def timingValue (size r c : Nat) : Option Bool :=
  if r = 6 ∧ 8 ≤ c ∧ c + 9 ≤ size then some (decide (c % 2 = 0))
  else if c = 6 ∧ 8 ≤ r ∧ r + 9 ≤ size then some (decide (r % 2 = 0))
  else none

/-- `n` times `pl_next()` (R301). -/
def plNexts : Nat → State → State
  | 0, s => s
  | n + 1, s => plNexts n (plNext s)

/-- The right column of pair number `p` of the traversal: `SIZE-1, SIZE-3, ..., 8, 5, 3, 1` (R301). -/
def pairColumn (size p : Nat) : Nat := if 8 + 2 * p ≤ size - 1 then size - 1 - 2 * p else size - 2 - 2 * p

/-- The `i`-th module of the zig-zag: pair by pair, first pair up, right then left (R301). -/
def zigzag (size i : Nat) : Nat × Nat :=
  let p := i / (2 * size)
  let k := i % (2 * size) / 2
  (if p % 2 = 0 then size - 1 - k else k, pairColumn size p - i % 2)

/-- Copy A of the format word, bit 0 first (R353). -/
def formatCopyA : List (Nat × Nat) :=
  [(0, 8), (1, 8), (2, 8), (3, 8), (4, 8), (5, 8), (7, 8), (8, 8), (8, 7), (8, 5), (8, 4), (8, 3), (8, 2), (8, 1), (8, 0)]

/-- Copy B of the format word, bit 0 first (R353). -/
def formatCopyB (size : Nat) : List (Nat × Nat) :=
  [(8, size - 1), (8, size - 2), (8, size - 3), (8, size - 4), (8, size - 5), (8, size - 6), (8, size - 7), (8, size - 8)]
  ++ [(size - 7, 8), (size - 6, 8), (size - 5, 8), (size - 4, 8), (size - 3, 8), (size - 2, 8), (size - 1, 8)]

/-- The two copies of a bit of the version word (R354). -/
def versionCells (size i : Nat) : List (Nat × Nat) := [(i / 3, size - 11 + i % 3), (size - 11 + i % 3, i / 3)]

/-- `(r, c)` is one of the three coordinate pairs without an alignment pattern (R275). -/
def atFinder (size r c : Nat) : Prop := (r = 6 ∧ c = 6) ∨ (r = 6 ∧ c = size - 7) ∨ (r = size - 7 ∧ c = 6)

/-- The number of places in a line where five values in a row are equal. -/
def windowsOfFive (darks : List Bool) : Nat :=
  ((List.range (darks.length - 4)).filter fun k =>
    (darks.drop k).take 5 = List.replicate 5 true || (darks.drop k).take 5 = List.replicate 5 false).length

/-- The number of those places where the run starts. -/
def runsOfFive (darks : List Bool) : Nat :=
  ((List.range (darks.length - 4)).filter fun k =>
    ((darks.drop k).take 5 = List.replicate 5 true || (darks.drop k).take 5 = List.replicate 5 false)
      && (k = 0 || darks[k - 1]? ≠ darks[k]?)).length

/-- Position `k` of the line `x` of length `size` is a hit: the seven cells, and the four positions before or the four
after are light, where a position outside the line is light if and only if `outside` (R329). -/
def hitAt (outside : Bool) (size : Nat) (x : Nat → Bool) (k : Nat) : Bool :=
  let light (t : Int) : Bool := if 0 ≤ t ∧ t < size then !x t.toNat else outside
  let p : Int := k
  (x k && !x (k + 1) && x (k + 2) && x (k + 3) && x (k + 4) && !x (k + 5) && x (k + 6)) &&
    ((light (p - 4) && light (p - 3) && light (p - 2) && light (p - 1)) ||
      (light (p + 7) && light (p + 8) && light (p + 9) && light (p + 10)))

/-- `f 0 + ... + f (n - 1)`. -/
def sumBelow (n : Nat) (f : Nat → Nat) : Nat := ((List.range n).map f).sum

/-- The grid a trial of mask `m` scores (R334). -/
def trialGrid (s : State) (m : Nat) : List (List Module) := writeFmt s.size (fmtWord s.ecl m) (flipGrid s.size m s.grid)

/-- The score of a trial of mask `m` (R334). -/
def trialScore (s : State) (m : Nat) : Nat := penalty s.params s.size (trialGrid s m)

/-- The modules of the zig-zag that are `Unset` in a state, in order (R305). -/
def freeCells (s : State) : List (Nat × Nat) :=
  ((List.range (s.size * (s.size - 1))).map (zigzag s.size)).filter fun rc => s.moduleAt rc.1 rc.2 = .unset

end Machine
end Sys2Proof
end

