-- ==== Sys2Proof/Certificates/Slice0/Obligations.lean ====
section
/-! DEFINITION. The statements for the provers, in the order of OBLIGATIONS.json. Each docstring names the rule of
`spec/` the statement formalises. -/
open Sys2Proof Sys2Proof.Machine

/-! Encoding and issuing (spec/30_encoding.md). -/

/-- Decoding undoes encoding: no operand bit of any command is dropped or moved. -/
def Obligations.DecodeEncode : Prop :=
  ∀ i : Instr, i.wellFormed = true → decode (encode i) = .ok i

/-- Encoding undoes decoding: no two words are one command, and only well-formed commands are decoded. -/
def Obligations.EncodeDecode : Prop :=
  ∀ (w : Word) (i : Instr), decode w = .ok i → i.wellFormed = true ∧ encode i = w

/-- R136: the 202 unassigned opcodes, and what a word with one of them does in the phases 0 to 11. -/
def Obligations.UnassignedOpcodes : Prop :=
  (∀ op : Byte, unassignedOpcode op.toNat = true ↔ ∀ m, (op, m) ∉ opcodeTable) ∧
  ((List.range 256).filter unassignedOpcode).length = 202 ∧
  ∀ (w : Word) (s : State), s.phase ≠ .error → unassignedOpcode (opField w).toNat = true →
    issue w s = .next (raise .illegalCommand w s)

/-- Words written out from the encoding, the first three by R140 itself, and the commands they stand for. -/
def Obligations.SampleWords : Prop :=
  decode 0x02010201#32 = .ok (.cfgSym 1 2 1) ∧ decode 0x13000703#32 = .ok (.gfGen 7 3) ∧
  decode 0x2000000B#32 = .ok (.bsHead 11) ∧ decode 0x00000000#32 = .ok .nop ∧ decode 0x01000000#32 = .ok .sreset ∧
  decode 0x21313233#32 = .ok (.bsNum3 0x31 0x32 0x33) ∧ decode 0x30000D0A#32 = .ok (.rsCfg 13 10) ∧
  decode 0x4600140A#32 = .ok (.mxGet 20 10) ∧ decode 0x53000000#32 = .ok .plRun ∧
  decode 0x63051214#32 = .ok (.mkBit 5 0x12 0x14) ∧ decode 0x70000206#32 = .ok (.fmtWord 2 6) ∧
  decode 0x02010208#32 = .error .reservedBits ∧ decode 0x03000000#32 = .error .unassignedOpcode

/-- A step runs the decoded command: when the host's next access writes the word of a command to `CMD`, the step is
that command on the state without the access (R130, R132), in every phase. -/
def Obligations.StepRunsDecoded : Prop :=
  (∀ (s : State) (w : Word) (i : Instr) (rest : List HostAccess), decode w = .ok i →
    s.pending = cmdWrite w :: rest → step s = exec i { s with pending := rest }) ∧
  ∀ (s : State) (w : Word) (i : Instr), decode w = .ok i → step (s.withFetchWord 32 w.toNat) = exec i s

/-- R132 and R137: the five steps of `issue(w)`, in their order; no two rows of the table share an opcode. -/
def Obligations.IssueOrder : Prop :=
  (opcodeTable.map Prod.fst).Nodup ∧
  ∀ (w : Word) (s : State),
    (s.phase = .error → w = 0x01000000#32 → issue w s = .next (resetState s)) ∧
    (s.phase = .error → w ≠ 0x01000000#32 → issue w s = .next s) ∧
    (s.phase ≠ .error → (∀ m, (opField w, m) ∉ opcodeTable) → issue w s = .next (raise .illegalCommand w s)) ∧
    (s.phase ≠ .error → ∀ m, (opField w, m) ∈ opcodeTable → w &&& m ≠ 0 →
      issue w s = .next (raise .illegalCommand w s)) ∧
    (∀ m, (opField w, m) ∈ opcodeTable → w &&& m = 0 → ∃ i, decode w = .ok i) ∧
    (∀ i, s.phase ≠ .error → decode w = .ok i → s.phase.code ∉ legalPhases i →
      issue w s = .next (raise .sequenceError w s)) ∧
    (∀ i, s.phase ≠ .error → decode w = .ok i → s.phase.code ∈ legalPhases i → issue w s = exec i s)

/-- R375: in `ERROR` nothing changes but by the exact word of `SRESET`, and registers are read as always. That a read is
taken off `pending` and its word appended to `replies` is the model's choice (notes/assumptions/1.md, 2.md). -/
def Obligations.ErrorPhase : Prop :=
  ∀ s : State, s.phase = .error →
    (∀ w, w ≠ 0x01000000#32 → issue w s = .next s) ∧
    issue 0x01000000#32 s = .next (resetState s) ∧
    (∀ off rest, off % 4 = 0 → s.pending = .read off 4 :: rest →
      step s = .next { s with pending := rest, replies := s.replies ++ [hostRead off s] })

/-! The host's registers and reset (spec/20_memory.md, spec/70_reset_and_hazards.md). -/

/-- R101 and R102: every field of every register is a live view, the bits not listed read 0, `CMD` reads 0, a write to
`CMD` issues the word, every other write is ignored, and offsets from 0x34 on read 0. The numbers of the named values
are those of R23, R26, R37, R39 and R370. `VER <= 40` is an invariant (`PackerCoherent`). -/
def Obligations.RegisterMap : Prop :=
  ∀ s : State, s.ver.toNat ≤ 40 →
    (bitField (hostRead 0x04 s) 0 4 = s.phase.code ∧ bitField (hostRead 0x04 s) 4 4 = s.err.code ∧
      bitField (hostRead 0x04 s) 8 4 = s.fnmask.toNat ∧ bitField (hostRead 0x04 s) 12 4 = appliedCode s.applied ∧
      bitField (hostRead 0x04 s) 16 1 = s.tail.toNat ∧ bitField (hostRead 0x04 s) 17 15 = 0) ∧
    (∀ p n, (p, n) ∈ [(Phase.idle, 0), (.configured, 1), (.payload, 2), (.terminated, 3), (.aligned, 4), (.packed, 5),
        (.coded, 6), (.matrix, 7), (.placing, 8), (.placed, 9), (.selected, 10), (.done, 11), (.error, 15)] →
      s.phase = p → bitField (hostRead 0x04 s) 0 4 = n) ∧
    (∀ e n, (e, n) ∈ [(ErrCode.none, 0), (.invalidMode, 1), (.capacityExceeded, 2), (.invalidShiftJIS, 3),
        (.unsupportedVersion, 4), (.unsupportedECLevel, 5), (.invariantViolation, 6), (.illegalCommand, 7),
        (.sequenceError, 8), (.operandRange, 9)] →
      s.err = e → bitField (hostRead 0x04 s) 4 4 = n) ∧
    ((s.applied = none → bitField (hostRead 0x04 s) 12 4 = 8) ∧
      ∀ m, s.applied = some m → bitField (hostRead 0x04 s) 12 4 = m.toNat) ∧
    ((∀ l n, (l, n) ∈ [(Level.L, 0), (.M, 1), (.Q, 2), (.H, 3)] → s.ecl = l → bitField (hostRead 0x10 s) 8 2 = n) ∧
      (∀ m n, (m, n) ∈ [(Mode.numeric, 0), (.alphanumeric, 1), (.byte, 2), (.kanji, 3)] →
        s.mode = m → bitField (hostRead 0x10 s) 12 2 = n) ∧
      (∀ c n, (c, n) ∈ [(Encoding.latin1, 0), (.utf8, 1)] → s.enc = c → bitField (hostRead 0x10 s) 16 1 = n)) ∧
    ((∀ d n, (d, n) ∈ [(Dir.up, 0), (.down, 1)] → s.plDir = d → bitField (hostRead 0x20 s) 16 1 = n) ∧
      (∀ d n, (d, n) ∈ [(Side.right, 0), (.left, 1)] → s.plSide = d → bitField (hostRead 0x20 s) 17 1 = n)) ∧
    (hostRead 0x08 s = s.res ∧ hostRead 0x0C s = s.errcmd ∧ hostRead 0x2C s = s.bestscore) ∧
    (bitField (hostRead 0x10 s) 0 6 = s.ver.toNat ∧ bitField (hostRead 0x10 s) 6 2 = 0 ∧
      bitField (hostRead 0x10 s) 8 2 = s.ecl.code ∧ bitField (hostRead 0x10 s) 10 2 = 0 ∧
      bitField (hostRead 0x10 s) 12 2 = s.mode.code ∧ bitField (hostRead 0x10 s) 14 2 = 0 ∧
      bitField (hostRead 0x10 s) 16 1 = s.enc.code ∧ bitField (hostRead 0x10 s) 17 7 = 0 ∧
      bitField (hostRead 0x10 s) 24 8 = (if s.ver.toNat = 0 then 0 else 17 + 4 * s.ver.toNat)) ∧
    (bitField (hostRead 0x14 s) 0 15 = s.bitlen.toNat ∧ bitField (hostRead 0x14 s) 15 17 = 0) ∧
    (bitField (hostRead 0x18 s) 0 16 = s.decl.toNat ∧ bitField (hostRead 0x18 s) 16 16 = s.chars.toNat) ∧
    (bitField (hostRead 0x1C s) 0 8 = s.rsK.toNat ∧ bitField (hostRead 0x1C s) 8 5 = s.rsR.toNat ∧
      bitField (hostRead 0x1C s) 13 3 = 0 ∧ bitField (hostRead 0x1C s) 16 8 = s.rsFill.toNat ∧
      bitField (hostRead 0x1C s) 24 8 = s.rsHead.toNat) ∧
    (bitField (hostRead 0x20 s) 0 8 = s.plRow.toNat ∧ bitField (hostRead 0x20 s) 8 8 = s.plColpair.toNat ∧
      bitField (hostRead 0x20 s) 16 1 = s.plDir.code ∧ bitField (hostRead 0x20 s) 17 1 = s.plSide.code ∧
      bitField (hostRead 0x20 s) 18 1 = s.plDone.toNat ∧ bitField (hostRead 0x20 s) 19 13 = 0) ∧
    (bitField (hostRead 0x24 s) 0 15 = s.bitpos.toNat ∧ bitField (hostRead 0x24 s) 15 1 = 0 ∧
      bitField (hostRead 0x24 s) 16 12 = s.cwlen.toNat ∧ bitField (hostRead 0x24 s) 28 4 = 0) ∧
    (bitField (hostRead 0x28 s) 0 3 = s.bestmask.toNat ∧ bitField (hostRead 0x28 s) 3 29 = 0) ∧
    (bitField (hostRead 0x30 s) 0 5 = s.synR.toNat ∧ bitField (hostRead 0x30 s) 5 27 = 0) ∧
    (hostRead 0x00 s = 0 ∧ ∀ off, 0x34 ≤ off → off % 4 = 0 → hostRead off s = 0) ∧
    (∀ v, hostWrite 0x00 v s = issue v s) ∧ (∀ off v, off ≠ 0x00 → off % 4 = 0 → hostWrite off v s = .next s)

/-- R103, by steps: an aligned word is read without any effect but the reply, and any other access is refused by name,
as R103 asks of a model. The reply's place in the state is the model's (notes/assumptions/2.md, 10.md). -/
def Obligations.HostAccesses : Prop :=
  ∀ (s : State) (rest : List HostAccess) (off bytes : Nat) (v : Word),
    (s.pending = .read off bytes :: rest → bytes = 4 → off % 4 = 0 →
      step s = .next { s with pending := rest, replies := s.replies ++ [hostRead off { s with pending := rest }] }) ∧
    (s.pending = .write off bytes v :: rest → bytes = 4 → off % 4 = 0 →
      step s = hostWrite off v { s with pending := rest }) ∧
    (s.pending = .read off bytes :: rest → (bytes ≠ 4 ∨ off % 4 ≠ 0) → step s = .refused .unsupportedAccess) ∧
    (s.pending = .write off bytes v :: rest → (bytes ≠ 4 ∨ off % 4 ≠ 0) → step s = .refused .unsupportedAccess)

/-- R400: the reset values, after the hard reset and after `SRESET` alike, and the tables are not affected. That the
hard reset is an item of `pending` and keeps the rest of the host side is the model's choice (notes/assumptions/12.md),
as is that the tables stand in the state (3.md). -/
def Obligations.ResetValues : Prop :=
  AtReset State.reset ∧
  (∀ (s : State) (rest : List HostAccess), s.pending = .hardReset :: rest →
    ∃ t, step s = .next t ∧ AtReset t ∧ t.params = s.params) ∧
  (∀ s : State, ∃ t, exec .sreset s = .next t ∧ AtReset t ∧ t.params = s.params) ∧
  ∀ (s : State) (rest : List HostAccess), s.pending = .hardReset :: rest → step s = exec .sreset { s with pending := rest }

/-! Control (spec/40_control.md). -/

/-- R160 and R161: `NOP` changes nothing, `SRESET` resets in every phase, what their opcodes do with other words, and no
other word leaves `ERROR`. That the six memories are absent afterwards is the model's form of "unspecified"
(notes/assumptions/4.md); that `params`, `pending` and `replies` are kept is its choice (3.md, 12.md). -/
def Obligations.NopSreset : Prop :=
  ∀ s : State,
    exec .nop s = .next s ∧
    (∃ t, exec .sreset s = .next t ∧ AtReset t ∧ t.params = s.params ∧ t.pending = s.pending ∧ t.replies = s.replies ∧
      t.bitbuf = State.reset.bitbuf ∧ t.rsbuf = State.reset.rsbuf ∧ t.syn = State.reset.syn ∧ t.par = State.reset.par ∧
      t.cw = State.reset.cw ∧ t.grid = State.reset.grid) ∧
    (∀ w, opField w = 0x00 → w ≠ 0x00000000#32 → s.phase ≠ .error → issue w s = .next (raise .illegalCommand w s)) ∧
    (∀ w, opField w = 0x01 → w ≠ 0x01000000#32 → s.phase ≠ .error → issue w s = .next (raise .illegalCommand w s)) ∧
    (∀ w, w ≠ 0x01000000#32 → s.phase = .error → issue w s = .next s)

/-- R162: `CFG_SYM`, its two checks in their order, and the registers it writes; out of `IDLE` and with a reserved bit
of `me` set it raises before either. -/
def Obligations.CfgSym : Prop :=
  ∀ (ver ecl me : Byte) (s : State),
    (s.phase ≠ .error → 8 ≤ me.toNat → issue (encode (.cfgSym ver ecl me)) s =
      .next (raise .illegalCommand (encode (.cfgSym ver ecl me)) s)) ∧
    (s.phase ≠ .error → s.phase ≠ .idle → Raises (.cfgSym ver ecl me) s .sequenceError) ∧
    (s.phase = .idle → (ver.toNat = 0 ∨ 40 < ver.toNat) → Raises (.cfgSym ver ecl me) s .unsupportedVersion) ∧
    (s.phase = .idle → 1 ≤ ver.toNat → ver.toNat ≤ 40 → 3 < ecl.toNat →
      Raises (.cfgSym ver ecl me) s .unsupportedECLevel) ∧
    (s.phase = .idle → 1 ≤ ver.toNat → ver.toNat ≤ 40 → ecl.toNat ≤ 3 →
      ∃ t, exec (.cfgSym ver ecl me) s = .next t ∧
        t = { s with ver := t.ver, ecl := t.ecl, mode := t.mode, enc := t.enc, bitlen := 0, phase := .configured } ∧
        t.ver.toNat = ver.toNat ∧ t.ecl.code = ecl.toNat ∧ t.mode.code = me.toNat % 4 ∧
        t.enc.code = me.toNat / 4 % 2)

/-! The whole machine (spec/10_state.md, spec/60_exceptions.md). -/

/-- R47: in which phases a command is legal, and the phase after one that succeeds. -/
def Obligations.PhaseTable : Prop :=
  (∀ (i : Instr) (s : State), s.phase ≠ .error → s.phase.code ∉ legalPhases i → Raises i s .sequenceError) ∧
  (∀ (i : Instr) (s : State), s.phase = .error → i ≠ .sreset → exec i s = .next s) ∧
  ∀ (i : Instr) (s t : State), exec i s = .next t → s.phase ≠ .error → t.phase ≠ .error →
    (∀ q, arrow i = some q → t.phase = q) ∧
    (arrow i = none → i ≠ .plBit → t.phase = s.phase) ∧
    (i = .plBit → t.phase = if t.bitpos.toNat = t.slen then .placed else .placing)

/-- R374: a command that raises has no other effect, records its own word, and leaves `ERROR` with a kind in `ERR`. -/
def Obligations.AllOrNothing : Prop :=
  ∀ (i : Instr) (s t : State), exec i s = .next t → s.phase ≠ .error → t.phase = .error →
    ∃ e, e ≠ ErrCode.none ∧ t = { s with err := e, errcmd := encode i, phase := .error }

/-- R24, last sentence, as an invariant of every step, and `ERR` and `ERRCMD` change only by a `raise` or a reset. -/
def Obligations.ErrInvariant : Prop :=
  (∀ s t : State, ErrCoherent s → step s = .next t → ErrCoherent t) ∧
  ∀ s t : State, step s = .next t → (t.err ≠ s.err ∨ t.errcmd ≠ s.errcmd) →
    t.phase = .error ∧ s.phase ≠ .error ∨ AtReset t

/-- "All are detected before any matrix mutation", in the words of R377, the spec's own inference: a user-facing error
comes only from `CFG_SYM`, `BS_HEAD` or a payload command, in the phases 0 to 2, and no module has been written then. The premises are two of the invariants of `CoherentInvariant`. -/
def Obligations.UserErrors : Prop :=
  ∀ (i : Instr) (s t : State), PackerCoherent s → GridCoherent s → exec i s = .next t → s.phase ≠ .error →
    t.phase = .error → userFacing t.err = true →
    mnemonic i ∈ ["CFG_SYM", "BS_HEAD", "BS_NUM3", "BS_NUM2", "BS_NUM1", "BS_AN2", "BS_AN1", "BS_BYTE", "BS_KANJI"] ∧
    s.phase.code ≤ 2 ∧ t.grid = []

/-- The "written by" column of the table of R45: what no other command changes. -/
def Obligations.WrittenBy : Prop :=
  ∀ (i : Instr) (s t : State), exec i s = .next t → i ≠ .sreset →
    let by_ (names : List String) : Prop := mnemonic i ∈ names
    let writers : List String := ["BS_HEAD", "BS_NUM3", "BS_NUM2", "BS_NUM1", "BS_AN2", "BS_AN1", "BS_BYTE", "BS_KANJI",
      "BS_TERM", "BS_ALIGN", "BS_PAD", "BS_FINISH"]
    (t.phase ≠ .error → t.err = s.err ∧ t.errcmd = s.errcmd) ∧
    (isQuery i = false → t.res = s.res) ∧
    (¬by_ ["CFG_SYM"] → t.ver = s.ver ∧ t.ecl = s.ecl ∧ t.mode = s.mode ∧ t.enc = s.enc) ∧
    (¬by_ ("CFG_SYM" :: writers) → t.bitlen = s.bitlen) ∧ (¬by_ writers → t.bitbuf = s.bitbuf) ∧
    (¬by_ ["BS_HEAD"] → t.decl = s.decl) ∧ (¬by_ (writers.take 8) → t.chars = s.chars) ∧
    (¬by_ ["BS_HEAD", "BS_NUM2", "BS_NUM1", "BS_AN1"] → t.tail = s.tail) ∧
    (¬by_ ["RS_CFG", "ECC_RUN"] → t.rsK = s.rsK ∧ t.rsR = s.rsR) ∧
    (¬by_ ["RS_CFG", "RS_DATA", "ECC_RUN"] → t.rsFill = s.rsFill) ∧
    (¬by_ ["RS_CFG", "RS_STEP", "RS_RUN", "ECC_RUN"] → t.rsHead = s.rsHead) ∧
    (¬by_ ["RS_CFG", "RS_DATA", "RS_STEP", "RS_RUN", "ECC_RUN"] → t.rsbuf = s.rsbuf) ∧
    (¬by_ ["SYN_CLR"] → t.synR = s.synR) ∧ (¬by_ ["SYN_CLR", "SYN_IN"] → t.syn = s.syn) ∧
    (¬by_ ["ECC_RUN"] → t.par = s.par ∧ t.cw = s.cw ∧ t.cwlen = s.cwlen) ∧
    (¬by_ ["MX_INIT", "MX_FINDER", "MX_TIMING", "MX_ALIGN", "MX_RESERVE", "MX_FUNC", "PL_BIT", "PL_RUN", "MK_APPLY",
      "MK_SELECT", "MD_FMT", "MD_VER"] → t.grid = s.grid) ∧
    (¬by_ ["MX_INIT", "MX_FINDER", "MX_TIMING", "MX_ALIGN", "MX_RESERVE", "MX_FUNC"] → t.fnmask = s.fnmask) ∧
    (¬by_ ["PL_START", "PL_NEXT", "PL_BIT", "PL_RUN"] → t.plRow = s.plRow ∧ t.plColpair = s.plColpair ∧
      t.plDir = s.plDir ∧ t.plSide = s.plSide ∧ t.plDone = s.plDone) ∧
    (¬by_ ["PL_START", "PL_BIT", "PL_RUN"] → t.bitpos = s.bitpos) ∧
    (¬by_ ["MK_APPLY", "MK_SELECT"] → t.applied = s.applied) ∧
    (¬by_ ["MK_SELECT"] → t.bestmask = s.bestmask ∧ t.bestscore = s.bestscore ∧ t.trial = s.trial) ∧
    (t.params = s.params ∧ t.pending = s.pending ∧ t.replies = s.replies)

/-- R28, R30 to R40 and R46 as one invariant: from every coherent state every step leads to a coherent one. -/
def Obligations.CoherentInvariant : Prop :=
  ∀ s t : State, Coherent s → step s = .next t → Coherent t

/-- The state after reset is coherent, with the default tables. -/
def Obligations.CoherentReset : Prop := Coherent State.reset

/-! GF(256) (spec/41_gf256.md, spec/11_rom_tables.md). -/

/-- The equivalent definition of R176, the spec's own inference: the multiplication by tables is the carry-less
multiplication reduced by `0x11D`, and its properties. -/
def Obligations.GfMulLaws : Prop :=
  (∀ a b : Byte, gfMulShift a b = gfMul a b) ∧
  (∀ a b : Byte, gfMul a b = gfMul b a) ∧
  (∀ a b c : Byte, gfMul (gfMul a b) c = gfMul a (gfMul b c)) ∧
  (∀ a : Byte, gfMul a 1 = a ∧ gfMul a 0 = 0) ∧
  (∀ a b c : Byte, gfMul a (b ^^^ c) = gfMul a b ^^^ gfMul a c) ∧
  (∀ a b : Byte, gfMul a b = 0 → a = 0 ∨ b = 0) ∧
  ∀ a : Byte, a ≠ 0 → gfMul a 2 = gfExpOf ((gfLogOf a + 1) % 255)

/-- What the tables of R72, R73 and R75 hold: `EXP[e]` is the `e`-th power of `0x02`, `LOG` is its inverse on the
non-zero elements, and `GEN[r]` is monic of degree `r` and vanishes at the first `r` powers of `0x02`. -/
def Obligations.GfTables : Prop :=
  (gfExpOf 0 = 1 ∧ ∀ e < 255, gfExpOf (e + 1) = gfMulShift (gfExpOf e) 2) ∧
  (∀ a : Byte, a ≠ 0 → gfLogOf a < 255 ∧ gfExpOf (gfLogOf a) = a) ∧
  ∀ r ∈ validR, gfGenOf r 0 = 1 ∧ ∀ i < r, polyEval (gfExpOf i) ((List.range (r + 1)).map (gfGenOf r)) = 0

/-- R172 to R175: the four queries write `RES` and nothing else in every phase 0 to 11, and what `GF_LOG` and `GF_GEN`
refuse, in the order of their checks. -/
def Obligations.GfQueries : Prop :=
  ∀ s : State, s.phase ≠ .error →
    (∀ a b, exec (.gfMul a b) s = .next { s with res := (gfMul a b).setWidth 32 }) ∧
    (∀ e, exec (.gfExp e) s = .next { s with res := (gfExpOf e.toNat).setWidth 32 }) ∧
    (∀ a, (a = 0 → Raises (.gfLog a) s .operandRange) ∧
      (a ≠ 0 → exec (.gfLog a) s = .next { s with res := BitVec.ofNat 32 (gfLogOf a) })) ∧
    (∀ r j, (r.toNat ∉ [7, 10, 13, 15, 16, 17, 18, 20, 22, 24, 26, 28, 30] → Raises (.gfGen r j) s .operandRange) ∧
      (r.toNat < j.toNat → Raises (.gfGen r j) s .operandRange) ∧
      (r.toNat ∈ [7, 10, 13, 15, 16, 17, 18, 20, 22, 24, 26, 28, 30] → j.toNat ≤ r.toNat →
        exec (.gfGen r j) s = .next { s with res := (gfGenOf r.toNat j.toNat).setWidth 32 }))

/-! The packer (spec/42_bitstream.md). -/

/-- R200: `BS_HEAD`, its checks in their order, and the header bits: the ECI header in Byte mode with UTF-8 only, the
mode indicator, the count, with the indicators of R80 and the widths of R81 written out. `CAPBITS <= 23648` is the bound
of R390. -/
def Obligations.BsHead : Prop :=
  (modeIndicator .numeric = 0b0001 ∧ modeIndicator .alphanumeric = 0b0010 ∧ modeIndicator .byte = 0b0100 ∧
    modeIndicator .kanji = 0b1000) ∧
  (∀ v, 1 ≤ v → v ≤ 40 →
    countWidth .numeric (versionBand v) = (if v ≤ 9 then 10 else if v ≤ 26 then 12 else 14) ∧
    countWidth .alphanumeric (versionBand v) = (if v ≤ 9 then 9 else if v ≤ 26 then 11 else 13) ∧
    countWidth .byte (versionBand v) = (if v ≤ 9 then 8 else 16) ∧
    countWidth .kanji (versionBand v) = (if v ≤ 9 then 8 else if v ≤ 26 then 10 else 12)) ∧
  ∀ (count : BitVec 16) (s : State), s.phase = .configured → s.capbits ≤ 23648 →
    let w := countWidth s.mode (versionBand s.ver.toNat)
    let eci := [false, true, true, true] ++ [false, false, false, true, true, false, true, false]
    let header := (if s.mode = .byte ∧ s.enc = .utf8 then eci else []) ++ bitsMSB (modeIndicator s.mode) 4
      ++ bitsMSB count.toNat w
    (count = 0 → Raises (.bsHead count) s .invalidMode) ∧
    (count ≠ 0 → 2 ^ w ≤ count.toNat → Raises (.bsHead count) s .capacityExceeded) ∧
    (count ≠ 0 → count.toNat < 2 ^ w → s.capbits < s.bitlen.toNat + header.length →
      Raises (.bsHead count) s .capacityExceeded) ∧
    (count ≠ 0 → count.toNat < 2 ^ w → s.bitlen.toNat + header.length ≤ s.capbits →
      ∃ t, exec (.bsHead count) s = .next t ∧
        t = { s with
          bitbuf := t.bitbuf, bitlen := t.bitlen, decl := count, chars := 0, tail := false, phase := .payload } ∧
        Appends s t header)

/-- R201, R202, R203: the numeric groups. -/
def Obligations.NumericGroups : Prop :=
  ∀ s : State, s.phase = .payload → s.capbits ≤ 23648 →
    let isDigit (c : Byte) : Prop := 0x30 ≤ c.toNat ∧ c.toNat ≤ 0x39
    (∀ c2 c1 c0, (isDigit c2 ∧ isDigit c1 ∧ isDigit c0 → PayloadRule (.bsNum3 c2 c1 c0) s .numeric .invalidMode
        (some (100 * (c2.toNat - 0x30) + 10 * (c1.toNat - 0x30) + (c0.toNat - 0x30))) 10 3 false) ∧
      (¬(isDigit c2 ∧ isDigit c1 ∧ isDigit c0) → PayloadRule (.bsNum3 c2 c1 c0) s .numeric .invalidMode none 10 3 false)) ∧
    (∀ c1 c0, (isDigit c1 ∧ isDigit c0 → PayloadRule (.bsNum2 c1 c0) s .numeric .invalidMode
        (some (10 * (c1.toNat - 0x30) + (c0.toNat - 0x30))) 7 2 true) ∧
      (¬(isDigit c1 ∧ isDigit c0) → PayloadRule (.bsNum2 c1 c0) s .numeric .invalidMode none 7 2 true)) ∧
    (∀ c0, (isDigit c0 → PayloadRule (.bsNum1 c0) s .numeric .invalidMode (some (c0.toNat - 0x30)) 4 1 true) ∧
      (¬isDigit c0 → PayloadRule (.bsNum1 c0) s .numeric .invalidMode none 4 1 true))

/-- R204, R205: the alphanumeric groups, with `ANVAL` of R82 written out: the value of a byte is its place in the list
of the 45 characters, digits, `A` to `Z`, space and `$%*+-./:`, and no other byte has one. -/
def Obligations.AlphanumericGroups : Prop :=
  (∀ c : Byte, anval c = ((List.range 10).map (0x30 + ·) ++ (List.range 26).map (0x41 + ·)
    ++ [0x20, 0x24, 0x25, 0x2A, 0x2B, 0x2D, 0x2E, 0x2F, 0x3A]).idxOf? c.toNat) ∧
  ∀ s : State, s.phase = .payload → s.capbits ≤ 23648 →
    (∀ a b, PayloadRule (.bsAn2 a b) s .alphanumeric .invalidMode
      ((anval a).bind fun x => (anval b).map fun y => x * 45 + y) 11 2 false) ∧
    (∀ a, PayloadRule (.bsAn1 a) s .alphanumeric .invalidMode (anval a) 6 1 true)

/-- R206, R207: a byte is packed verbatim, whatever it is; a Kanji pair by its two ranges. -/
def Obligations.ByteAndKanji : Prop :=
  ∀ s : State, s.phase = .payload → s.capbits ≤ 23648 →
    (∀ b, PayloadRule (.bsByte b) s .byte .invalidMode (some b.toNat) 8 1 false) ∧
    (∀ b1 b0 : Byte,
      let v := 256 * b1.toNat + b0.toNat
      let pack (t : Nat) : Nat := t / 256 * 0xC0 + t % 256
      (0x8140 ≤ v → v ≤ 0x9FFC →
        PayloadRule (.bsKanji b1 b0) s .kanji .invalidShiftJIS (some (pack (v - 0x8140))) 13 1 false) ∧
      (0xE040 ≤ v → v ≤ 0xEBBF →
        PayloadRule (.bsKanji b1 b0) s .kanji .invalidShiftJIS (some (pack (v - 0xC140))) 13 1 false) ∧
      (¬(0x8140 ≤ v ∧ v ≤ 0x9FFC) → ¬(0xE040 ≤ v ∧ v ≤ 0xEBBF) →
        PayloadRule (.bsKanji b1 b0) s .kanji .invalidShiftJIS none 13 1 false))

/-- R208, R209: the terminator is four zero bits or none; the alignment is 0 to 7 zero bits to a byte boundary. -/
def Obligations.TermAndAlign : Prop :=
  ∀ s : State,
    (s.phase = .payload → s.capbits ≤ 23648 →
      (s.chars ≠ s.decl → Raises .bsTerm s .invariantViolation) ∧
      (s.chars = s.decl → ∃ t, exec .bsTerm s = .next t ∧
        t = { s with bitbuf := t.bitbuf, bitlen := t.bitlen, phase := .terminated } ∧
        Appends s t (if s.bitlen.toNat + 4 ≤ s.capbits then [false, false, false, false] else []))) ∧
    (s.phase = .terminated → s.bitlen.toNat ≤ 23648 →
      ∃ t n, exec .bsAlign s = .next t ∧
        t = { s with bitbuf := t.bitbuf, bitlen := t.bitlen, phase := .aligned } ∧
        n < 8 ∧ (s.bitlen.toNat + n) % 8 = 0 ∧ Appends s t (List.replicate n false))

/-- R210: pad codewords `0xEC`, `0x11` in turn up to the capacity exactly; else `BS_PAD` raises. What it raises on a
stream that is not a multiple of 8, which no run reaches, is the model's choice (notes/assumptions/6.md). -/
def Obligations.BsPad : Prop :=
  ∀ s : State, s.phase = .aligned → s.capbits ≤ 23648 →
    (s.bitlen.toNat % 8 = 0 → s.bitlen.toNat ≤ s.capbits →
      ∃ t, exec .bsPad s = .next t ∧
        t = { s with bitbuf := t.bitbuf, bitlen := t.bitlen, phase := .packed } ∧ t.bitlen.toNat = s.capbits ∧
        Appends s t ((List.range ((s.capbits - s.bitlen.toNat) / 8)).flatMap fun i =>
          bitsMSB (if i % 2 = 0 then 0xEC else 0x11) 8)) ∧
    (s.capbits < s.bitlen.toNat → Raises .bsPad s .invariantViolation) ∧
    (s.bitlen.toNat % 8 ≠ 0 → s.bitlen.toNat < s.capbits → Raises .bsPad s .capacityExceeded)

/-- R211, R217: `BS_FINISH` does what the three commands do in a row, or raises and appends nothing; after it the
stream is full and the codewords after the aligned end of the terminator are `0xEC, 0x11, 0xEC, ...`. -/
def Obligations.BsFinish : Prop :=
  ∀ s : State, s.phase = .payload → s.capbits ≤ 23648 → s.bitlen.toNat ≤ s.capbits →
    (s.chars ≠ s.decl → Raises .bsFinish s .invariantViolation) ∧
    (s.chars = s.decl → ∃ t, exec .bsFinish s = .next t ∧ execAll [.bsTerm, .bsAlign, .bsPad] s = .next t ∧
      t = { s with bitbuf := t.bitbuf, bitlen := t.bitlen, phase := .packed } ∧ t.bitlen.toNat = s.capbits ∧
      (∀ k, (k < s.bitlen.toNat ∨ s.capbits ≤ k) → t.bitAt k = s.bitAt k) ∧
      let finish := if s.bitlen.toNat + 4 ≤ s.capbits then s.bitlen.toNat + 4 else s.bitlen.toNat
      let first := (finish + 7) / 8
      (∀ k, s.bitlen.toNat ≤ k → k < 8 * first → t.bitAt k = false) ∧
      ∀ j, 8 * (first + j) < s.capbits → t.dbyte (first + j) = if j % 2 = 0 then 0xEC else 0x11)

/-- R212, R213: what `BS_GET` and `BS_GETB` return, first bit as bit 7, and the index they refuse. -/
def Obligations.BsGet : Prop :=
  ∀ (i : BitVec 16) (s : State), 1 ≤ s.phase.code → s.phase.code ≤ 11 →
    (s.bitlen.toNat < 8 * i.toNat + 8 → Raises (.bsGet i) s .operandRange) ∧
    (8 * i.toNat + 8 ≤ s.bitlen.toNat → ∃ v : Byte, exec (.bsGet i) s = .next { s with res := v.setWidth 32 } ∧
      ∀ k < 8, v.getLsbD (7 - k) = s.bitAt (8 * i.toNat + k)) ∧
    (s.bitlen.toNat ≤ i.toNat → Raises (.bsGetb i) s .operandRange) ∧
    (i.toNat < s.bitlen.toNat → exec (.bsGetb i) s = .next { s with res := if s.bitAt i.toNat then 1 else 0 })

/-- The length rule R216, the spec's own inference from R200 to R207: from a configured symbol with an empty stream, the header and a well-formed payload of `n` characters leave
`BITLEN` at the length of the rule, with every character counted, for each of the four modes. -/
def Obligations.PayloadLength : Prop :=
  ∀ (s : State) (n : BitVec 16) (chars : List Byte) (groups : List Instr) (payloadBits : Nat),
    s.phase = .configured → s.bitlen = 0 → s.capbits ≤ 23648 → n ≠ 0 →
    n.toNat < 2 ^ countWidth s.mode (versionBand s.ver.toNat) →
    (s.mode = .numeric → chars.length = n.toNat ∧ (∀ c ∈ chars, 0x30 ≤ c.toNat ∧ c.toNat ≤ 0x39) ∧
      groups = numericGroups chars ∧
      payloadBits = 10 * (n.toNat / 3) + (if n.toNat % 3 = 0 then 0 else if n.toNat % 3 = 1 then 4 else 7)) →
    (s.mode = .alphanumeric → chars.length = n.toNat ∧ (∀ c ∈ chars, anval c ≠ none) ∧
      groups = alphanumericGroups chars ∧ payloadBits = 11 * (n.toNat / 2) + 6 * (n.toNat % 2)) →
    (s.mode = .byte → chars.length = n.toNat ∧ groups = chars.map .bsByte ∧ payloadBits = 8 * n.toNat) →
    (s.mode = .kanji → kanjiGroups chars = some groups ∧ groups.length = n.toNat ∧
      (∀ b1 b0, Instr.bsKanji b1 b0 ∈ groups → ∃ v, kanjiValue b1 b0 = .ok v) ∧ payloadBits = 13 * n.toNat) →
    let total := (if s.mode = .byte ∧ s.enc = .utf8 then 12 else 0) + 4
      + countWidth s.mode (versionBand s.ver.toNat) + payloadBits
    total ≤ s.capbits →
    ∃ t, execAll (.bsHead n :: groups) s = .next t ∧ t.phase = .payload ∧ t.bitlen.toNat = total ∧ t.decl = n ∧
      t.chars = n

/-! Reed-Solomon (spec/43_reed_solomon.md). -/

/-- R232, R233: `RS_CFG` configures and clears the divider, `RS_DATA` loads one byte, and what they refuse. -/
def Obligations.RsLoad : Prop :=
  ∀ s : State, s.phase ≠ .error →
    (∀ k r : Byte,
      (¬(1 ≤ k.toNat ∧ r.toNat ∈ validR ∧ k.toNat + r.toNat ≤ 255) → Raises (.rsCfg k r) s .operandRange) ∧
      (1 ≤ k.toNat → r.toNat ∈ validR → k.toNat + r.toNat ≤ 255 → ∃ t, exec (.rsCfg k r) s = .next t ∧
        t = { s with rsK := k, rsR := t.rsR, rsFill := 0, rsHead := 0, rsbuf := t.rsbuf } ∧
        t.rsR.toNat = r.toNat ∧ ∀ i < 255, t.rsAt i = 0)) ∧
    (∀ d : Byte,
      (s.rsR = 0 → Raises (.rsData d) s .sequenceError) ∧
      (s.rsR ≠ 0 → ¬(s.rsHead = 0 ∧ s.rsFill.toNat < s.rsK.toNat) → Raises (.rsData d) s .sequenceError) ∧
      (s.rsR ≠ 0 → s.rsHead = 0 → s.rsFill.toNat < s.rsK.toNat → ∃ t, exec (.rsData d) s = .next t ∧
        t = { s with rsbuf := t.rsbuf, rsFill := s.rsFill + 1 } ∧
        ∀ i, t.rsAt i = if i = s.rsFill.toNat then d else s.rsAt i))

/-- R231, R234: one division step, element by element; after it the buffer is 0 up to the new head. -/
def Obligations.RsStep : Prop :=
  ∀ s : State, s.phase ≠ .error →
    (s.rsR = 0 → Raises .rsStep s .sequenceError) ∧
    (s.rsR ≠ 0 → ¬(s.rsFill = s.rsK ∧ s.rsHead.toNat < s.rsK.toNat) → Raises .rsStep s .sequenceError) ∧
    (s.rsR ≠ 0 → s.rsFill = s.rsK → s.rsHead.toNat < s.rsK.toNat →
      let lead := s.rsAt s.rsHead.toNat
      ∃ t, exec .rsStep s = .next t ∧ t = { s with rsbuf := t.rsbuf, rsHead := s.rsHead + 1 } ∧
        (lead = 0 → ∀ i, t.rsAt i = s.rsAt i) ∧
        (lead ≠ 0 → ∀ i, t.rsAt i =
          if s.rsHead.toNat ≤ i ∧ i ≤ s.rsHead.toNat + s.rsR.toNat then
            s.rsAt i ^^^ gfMul (gfGenOf s.rsR.toNat (i - s.rsHead.toNat)) lead
          else s.rsAt i) ∧
        (RsCoherent s → ∀ i < t.rsHead.toNat, t.rsAt i = 0))

/-- R235: `RS_RUN` is all remaining `RS_STEP`, none when the division is finished; then the first `RS_K` elements are
0. -/
def Obligations.RsRun : Prop :=
  ∀ s : State, s.phase ≠ .error →
    (s.rsR = 0 → Raises .rsRun s .sequenceError) ∧
    (s.rsR ≠ 0 → s.rsFill ≠ s.rsK → Raises .rsRun s .sequenceError) ∧
    (s.rsR ≠ 0 → s.rsFill = s.rsK → s.rsHead.toNat ≤ s.rsK.toNat →
      ∃ t, exec .rsRun s = .next t ∧
        execAll (List.replicate (s.rsK.toNat - s.rsHead.toNat) .rsStep) s = .next t ∧
        t = { s with rsbuf := t.rsbuf, rsHead := s.rsK } ∧ (s.rsHead = s.rsK → t = s) ∧
        (RsCoherent s → ∀ i < s.rsK.toNat, t.rsAt i = 0))

/-- R230: the division subtracts multiples of the generator only, so the buffer keeps its value at each of the
generator's roots; with the data part 0 afterwards, the parity is the remainder. -/
def Obligations.RsRemainder : Prop :=
  ∀ s t : State, s.phase ≠ .error → RsCoherent s → s.rsR ≠ 0 → s.rsFill = s.rsK → exec .rsRun s = .next t →
    (∀ i < s.rsK.toNat, t.rsAt i = 0) ∧
    ∀ j < s.rsR.toNat, polyEval (gfExpOf j) t.rsInUse = polyEval (gfExpOf j) s.rsInUse

/-- R236, R243: what `RS_GET` and `SYN_GET` return and refuse, in the order of their checks. -/
def Obligations.RsSynGet : Prop :=
  ∀ (i : Byte) (s : State), s.phase ≠ .error →
    (s.rsR = 0 → Raises (.rsGet i) s .sequenceError) ∧
    (s.rsR ≠ 0 → s.rsK.toNat + s.rsR.toNat ≤ i.toNat → Raises (.rsGet i) s .operandRange) ∧
    (s.rsR ≠ 0 → i.toNat < s.rsK.toNat + s.rsR.toNat →
      exec (.rsGet i) s = .next { s with res := (s.rsAt i.toNat).setWidth 32 }) ∧
    (s.synR = 0 → Raises (.synGet i) s .sequenceError) ∧
    (s.synR ≠ 0 → s.synR.toNat ≤ i.toNat → Raises (.synGet i) s .operandRange) ∧
    (s.synR ≠ 0 → i.toNat < s.synR.toNat →
      exec (.synGet i) s = .next { s with res := (s.synAt i.toNat).setWidth 32 })

/-- R241, R242, R244: clearing, feeding and testing the syndrome calculator. -/
def Obligations.SynCommands : Prop :=
  ∀ s : State, s.phase ≠ .error →
    (∀ r : Byte, (¬(1 ≤ r.toNat ∧ r.toNat ≤ 30) → Raises (.synClr r) s .operandRange) ∧
      (1 ≤ r.toNat → r.toNat ≤ 30 → ∃ t, exec (.synClr r) s = .next t ∧ t = { s with synR := t.synR, syn := t.syn } ∧
        t.synR.toNat = r.toNat ∧ ∀ j < 30, t.synAt j = 0)) ∧
    (∀ b : Byte, (s.synR = 0 → Raises (.synIn b) s .sequenceError) ∧
      (s.synR ≠ 0 → ∃ t, exec (.synIn b) s = .next t ∧ t = { s with syn := t.syn } ∧
        ∀ j, t.synAt j = if j < s.synR.toNat then gfMul (s.synAt j) (gfExpOf j) ^^^ b else s.synAt j)) ∧
    (s.synR = 0 → Raises .synOk s .sequenceError) ∧
    (s.synR ≠ 0 → (∀ j < s.synR.toNat, s.synAt j = 0) → exec .synOk s = .next { s with res := 1 }) ∧
    (s.synR ≠ 0 → (∃ j < s.synR.toNat, s.synAt j ≠ 0) → exec .synOk s = .next { s with res := 0 })

/-- R240, first sentence: after `SYN_CLR r` and a sequence of bytes, syndrome `j` is the sequence evaluated at the
`j`-th power of `0x02`, and nothing but the calculator has changed. -/
def Obligations.Syndromes : Prop :=
  ∀ (s : State) (r : Byte) (c : List Byte), s.phase ≠ .error → 1 ≤ r.toNat → r.toNat ≤ 30 →
    ∃ t, execAll (.synClr r :: c.map .synIn) s = .next t ∧ t = { s with synR := t.synR, syn := t.syn } ∧
      t.synR.toNat = r.toNat ∧ ∀ j < r.toNat, t.synAt j = powerSum (gfExpOf j) c

/-- The parity-check property, the spec's own inference R245 from R230 and R240, its converse for one changed byte, and
the worked block of R237. -/
def Obligations.ParityCheck : Prop :=
  (∀ (s : State) (k r : Byte) (d : List Byte), s.phase ≠ .error → d.length = k.toNat → 1 ≤ k.toNat →
    r.toNat ∈ validR → k.toNat + r.toNat ≤ 255 →
    ∃ t1, execAll (.rsCfg k r :: d.map .rsData ++ [.rsRun]) s = .next t1 ∧
      let p := (List.range r.toNat).map fun j => t1.rsAt (k.toNat + j)
      (∃ t2, execAll (.synClr r :: (d ++ p).map .synIn ++ [.synOk]) t1 = .next t2 ∧ t2.res = 1) ∧
      ∀ i < k.toNat + r.toNat, ∀ b, some b ≠ (d ++ p)[i]? →
        ∃ t3, execAll (.synClr r :: ((d ++ p).set i b).map .synIn ++ [.synOk]) t1 = .next t3 ∧ t3.res = 0) ∧
  ∀ s : State, s.phase ≠ .error → ∃ t,
    execAll (.synClr 7 :: [0x12, 0x34, 0x56, 0x7C, 0xEB, 0xA3, 0x19, 0xCB, 0xD3, 0x45].map .synIn) s = .next t ∧
      ∀ j < 7, t.synAt j = 0

/-- R30 and R31: the divider's invariants, kept by every step. -/
def Obligations.RsInvariant : Prop :=
  ∀ s t : State, RsCoherent s → step s = .next t → RsCoherent t

/-- R250, R251: `ECC_RUN`. For a well-formed record and a full stream, where by the spec's own inference (marked
derived in R250) nothing raises, it answers the state in which every block has the
parity the divider computes for it alone, `CW` is the interleaving of all blocks, and the divider is left as after the
last block; with a stream of another length it raises. -/
def Obligations.EccRun : Prop :=
  ∀ s : State, s.phase = .packed →
    (s.bitlen.toNat ≠ 8 * s.vspec.dataBytes → Raises .eccRun s .invariantViolation) ∧
    (s.vspec.wf = true → s.bitlen.toNat = 8 * s.vspec.dataBytes →
      let x := s.vspec
      ∃ t, exec .eccRun s = .next t ∧
        t = { s with
          rsK := t.rsK, rsR := t.rsR, rsFill := t.rsK, rsHead := t.rsK, rsbuf := t.rsbuf, par := t.par, cw := t.cw,
          cwlen := t.cwlen, phase := .coded } ∧
        t.cwlen.toNat = x.total ∧ t.rsK.toNat = x.blkLen (x.nb - 1) ∧ t.rsR.toNat = x.r ∧
        (∀ b < x.nb, ∃ u,
          execAll (.rsCfg (BitVec.ofNat 8 (x.blkLen b)) (BitVec.ofNat 8 x.r) :: (s.blockData b).map .rsData ++ [.rsRun]) s
            = .next u ∧ ∀ j < x.r, t.parAt b j = u.rsAt (x.blkLen b + j)) ∧
        (∀ b j, ¬(b < x.nb ∧ j < x.r) → t.parAt b j = s.parAt b j) ∧
        (∀ b < x.nb, ∀ col < x.blkLen b, t.cwAt (dataPosition x b col) = s.dbyte (x.blkOff b + col)) ∧
        (∀ b < x.nb, ∀ col < x.r, t.cwAt (parityPosition x b col) = t.parAt b col) ∧
        (∀ n, x.total ≤ n → t.cwAt n = s.cwAt n) ∧
        ∀ i < 255, t.rsAt i =
          if x.blkLen (x.nb - 1) ≤ i ∧ i < x.blkLen (x.nb - 1) + x.r then
            t.parAt (x.nb - 1) (i - x.blkLen (x.nb - 1))
          else 0)

/-- R252, R253: what `BLK_GET` and `CW_GET` return and refuse, in the order of their checks. -/
def Obligations.BlkCwGet : Prop :=
  ∀ s : State, 6 ≤ s.phase.code → s.phase.code ≤ 11 →
    (∀ b i : Byte,
      (s.vspec.nb ≤ b.toNat → Raises (.blkGet b i) s .operandRange) ∧
      (s.vspec.blkLen b.toNat + s.vspec.r ≤ i.toNat → Raises (.blkGet b i) s .operandRange) ∧
      (b.toNat < s.vspec.nb → i.toNat < s.vspec.blkLen b.toNat →
        exec (.blkGet b i) s = .next { s with res := (s.dbyte (s.vspec.blkOff b.toNat + i.toNat)).setWidth 32 }) ∧
      (b.toNat < s.vspec.nb → s.vspec.blkLen b.toNat ≤ i.toNat → i.toNat < s.vspec.blkLen b.toNat + s.vspec.r →
        exec (.blkGet b i) s =
          .next { s with res := (s.parAt b.toNat (i.toNat - s.vspec.blkLen b.toNat)).setWidth 32 })) ∧
    (∀ i : BitVec 16,
      (s.cwlen.toNat ≤ i.toNat → Raises (.cwGet i) s .operandRange) ∧
      (i.toNat < s.cwlen.toNat → exec (.cwGet i) s = .next { s with res := (s.cwAt i.toNat).setWidth 32 }))

/-! The matrix builder (spec/44_matrix_builder.md). -/

/-- R272: every module in use is `Unset`; before it, in a coherent state, nothing of the grid was written, and no module
outside the part in use is afterwards. -/
def Obligations.MxInit : Prop :=
  ∀ s : State, s.phase = .coded →
    ∃ t, exec .mxInit s = .next t ∧ t = { s with grid := t.grid, fnmask := 0, phase := .matrix } ∧
      (∀ r < s.size, ∀ c < s.size, t.moduleAt r c = .unset) ∧
      (GridCoherent s → ∀ r c, ¬(r < s.size ∧ c < s.size) → t.moduleAt r c = s.moduleAt r c)

/-- R273, R274: the finders with their separators, and the timing patterns, module by module; every other module reads
as before. -/
def Obligations.FinderAndTiming : Prop :=
  ∀ s : State, s.phase = .matrix → 1 ≤ s.ver.toNat →
    (∃ t, exec .mxFinder s = .next t ∧ t = { s with grid := t.grid, fnmask := s.fnmask ||| 0b0001#4 } ∧
      ∀ r c, t.moduleAt r c = match finderValue s.size r c with | some d => .function d | none => s.moduleAt r c) ∧
    (∃ t, exec .mxTiming s = .next t ∧ t = { s with grid := t.grid, fnmask := s.fnmask ||| 0b0010#4 } ∧
      ∀ r c, t.moduleAt r c = match timingValue s.size r c with | some d => .function d | none => s.moduleAt r c)

/-- R275: the alignment patterns, 5 by 5 around every pairwise combination but the three at the finders; every other
module reads as before. -/
def Obligations.Alignment : Prop :=
  ∀ s : State, s.phase = .matrix → 1 ≤ s.ver.toNat → s.ver.toNat ≤ 40 →
    let a := alignAt s.params s.ver.toNat
    alignListWf s.ver.toNat a = true →
    ∃ t, exec .mxAlign s = .next t ∧ t = { s with grid := t.grid, fnmask := s.fnmask ||| 0b0100#4 } ∧
      (∀ cr ∈ a, ∀ cc ∈ a, ¬atFinder s.size cr cc → ∀ r c, absDiff r cr ≤ 2 → absDiff c cc ≤ 2 →
        t.moduleAt r c = .function (decide (max (absDiff r cr) (absDiff c cc) ≠ 1))) ∧
      (∀ r c, (∀ cr ∈ a, ∀ cc ∈ a, ¬atFinder s.size cr cc → ¬(absDiff r cr ≤ 2 ∧ absDiff c cc ≤ 2)) →
        t.moduleAt r c = s.moduleAt r c)

/-- R276, R277: the reserved cells are light, the dark module is dark, every other module reads as before; and `MX_FUNC`
is the four commands in their order. -/
def Obligations.ReserveAndFunc : Prop :=
  ∀ s : State, s.phase = .matrix → 1 ≤ s.ver.toNat →
    (∃ t, exec .mxReserve s = .next t ∧ t = { s with grid := t.grid, fnmask := s.fnmask ||| 0b1000#4 } ∧
      (∀ rc ∈ formatCopyA ++ formatCopyB s.size, t.moduleAt rc.1 rc.2 = .function false) ∧
      t.moduleAt (s.size - 8) 8 = .function true ∧
      (7 ≤ s.ver.toNat → ∀ i < 18, ∀ rc ∈ versionCells s.size i, t.moduleAt rc.1 rc.2 = .function false) ∧
      ∀ r c, (r, c) ∉ formatCopyA ++ formatCopyB s.size → ¬(r = s.size - 8 ∧ c = 8) →
        (7 ≤ s.ver.toNat → ∀ i < 18, (r, c) ∉ versionCells s.size i) → t.moduleAt r c = s.moduleAt r c) ∧
    ∃ t, exec .mxFunc s = .next t ∧ execAll [.mxFinder, .mxTiming, .mxAlign, .mxReserve] s = .next t ∧
      t = { s with grid := t.grid, fnmask := 0b1111#4 }

/-- Order independence, the spec's own inference R279, with the default tables: the four placement commands in any order and with any repetition leave
the grid of `MX_FUNC`. -/
def Obligations.PlacementOrder : Prop :=
  ∀ (s : State) (l : List Instr), s.phase = .matrix → 1 ≤ s.ver.toNat → s.ver.toNat ≤ 40 → s.params = defaultParams →
    (∀ i ∈ l, i ∈ [Instr.mxFinder, .mxTiming, .mxAlign, .mxReserve]) →
    (∀ i ∈ [Instr.mxFinder, .mxTiming, .mxAlign, .mxReserve], i ∈ l) →
    ∃ t u, exec .mxFunc s = .next t ∧ execAll l s = .next u ∧ u.fnmask = 0b1111#4 ∧
      ∀ r c, u.moduleAt r c = t.moduleAt r c

/-- R280, R283: what `MX_GET` and `MX_PIX` return, and the coordinates they refuse; in a coherent state no module is
`Unset` in `DONE`. -/
def Obligations.MxReads : Prop :=
  ∀ (r c : Byte) (s : State),
    (7 ≤ s.phase.code → s.phase.code ≤ 11 →
      (¬(r.toNat < s.size ∧ c.toNat < s.size) → Raises (.mxGet r c) s .operandRange) ∧
      (r.toNat < s.size → c.toNat < s.size → exec (.mxGet r c) s = .next { s with
        res := match s.moduleAt r.toNat c.toNat with
          | .unset => 0b000#32
          | .function false => 0b010#32
          | .function true => 0b011#32
          | .data false => 0b100#32
          | .data true => 0b101#32 })) ∧
    (s.phase = .done →
      (¬(r.toNat < s.size ∧ c.toNat < s.size) → Raises (.mxPix r c) s .operandRange) ∧
      (r.toNat < s.size → c.toNat < s.size → GridCoherent s → s.moduleAt r.toNat c.toNat ≠ .unset) ∧
      (r.toNat < s.size → c.toNat < s.size → exec (.mxPix r c) s = .next { s with
        res := match s.moduleAt r.toNat c.toNat with
          | .unset => 0
          | .function d => if d then 1 else 0
          | .data d => if d then 1 else 0 }))

/-! The placer (spec/45_data_placer.md). -/

/-- R303, R304: `PL_START` goes to the bottom-right corner, `PL_NEXT` is one step of `pl_next()`, spelled out case by
case as R301 has it. -/
def Obligations.PlStartNext : Prop :=
  ∀ s : State,
    (s.phase = .matrix → s.fnmask ≠ 0b1111#4 → Raises .plStart s .sequenceError) ∧
    (s.phase = .matrix → s.fnmask = 0b1111#4 → s.ver.toNat ≤ 40 → ∃ t, exec .plStart s = .next t ∧
      t = { s with
        plRow := t.plRow, plColpair := t.plColpair, plDir := .up, plSide := .right, plDone := false, bitpos := 0,
        phase := .placing } ∧ t.plRow.toNat = s.size - 1 ∧ t.plColpair.toNat = s.size - 1) ∧
    (s.phase = .placing → s.plDone = true → Raises .plNext s .sequenceError) ∧
    (s.phase = .placing → s.plDone = false →
      (s.plSide = .right → exec .plNext s = .next { s with plSide := .left }) ∧
      (s.plSide = .left → s.plDir = .up → 0 < s.plRow.toNat →
        exec .plNext s = .next { s with plRow := s.plRow - 1, plSide := .right }) ∧
      (s.plSide = .left → s.plDir = .down → s.plRow.toNat < s.size - 1 →
        exec .plNext s = .next { s with plRow := s.plRow + 1, plSide := .right }) ∧
      (s.plSide = .left → (s.plDir = .up ∧ s.plRow = 0) ∨ (s.plDir = .down ∧ s.size - 1 ≤ s.plRow.toNat) →
        (s.plColpair = 1 → exec .plNext s = .next { s with plDone := true }) ∧
        (s.plColpair = 8 → exec .plNext s = .next { s with
          plColpair := 5, plDir := if s.plDir = .up then .down else .up, plSide := .right }) ∧
        (s.plColpair ≠ 8 → 2 ≤ s.plColpair.toNat → exec .plNext s = .next { s with
          plColpair := s.plColpair - 2, plDir := if s.plDir = .up then .down else .up, plSide := .right })))

/-- R301, last part: from the start the traversal is the zig-zag, which visits every module outside column 6 exactly
once, and then sets `PL_DONE`. -/
def Obligations.Traversal : Prop :=
  ∀ s : State, 1 ≤ s.ver.toNat → s.ver.toNat ≤ 40 →
    let start := { s with
      plRow := BitVec.ofNat 8 (s.size - 1), plColpair := BitVec.ofNat 8 (s.size - 1), plDir := .up, plSide := .right,
      plDone := false }
    (∀ i < s.size * (s.size - 1), (plNexts i start).plDone = false ∧
      ((plNexts i start).plRow.toNat, (plNexts i start).plCol) = zigzag s.size i) ∧
    (plNexts (s.size * (s.size - 1)) start).plDone = true ∧
    (∀ i < s.size * (s.size - 1), (zigzag s.size i).1 < s.size ∧ (zigzag s.size i).2 < s.size ∧ (zigzag s.size i).2 ≠ 6) ∧
    ∀ r < s.size, ∀ c < s.size, c ≠ 6 →
      ∃ i < s.size * (s.size - 1), zigzag s.size i = (r, c) ∧
        ∀ j < s.size * (s.size - 1), zigzag s.size j = (r, c) → j = i

/-- R305: `PL_BIT` skips `n` modules that are not `Unset`, places the next bit in the first that is, and goes on; at the
end of the traversal it raises, and after the last bit it finishes or raises. -/
def Obligations.PlBit : Prop :=
  ∀ (s : State) (n : Nat), s.phase = .placing → n ≤ s.size * s.size →
    (∀ k < n, (plNexts k s).plDone = false ∧ (plNexts k s).plModule ≠ .unset) →
    let u := plNexts n s
    (u.plDone = true → Raises .plBit s .invariantViolation) ∧
    (u.plDone = false → u.plModule = .unset → ∃ g : List (List Module),
      (∀ r c, gridAt g r c =
        if r = u.plRow.toNat ∧ c = u.plCol then .data (s.streamBit s.bitpos.toNat) else s.moduleAt r c) ∧
      ((s.bitpos + 1).toNat ≠ s.slen →
        exec .plBit s = .next { plNext u with grid := g, bitpos := s.bitpos + 1 }) ∧
      ((s.bitpos + 1).toNat = s.slen → (∃ r < s.size, ∃ c < s.size, gridAt g r c = .unset) →
        Raises .plBit s .invariantViolation) ∧
      ((s.bitpos + 1).toNat = s.slen → (∀ r < s.size, ∀ c < s.size, gridAt g r c ≠ .unset) →
        exec .plBit s = .next { plNext u with grid := g, bitpos := s.bitpos + 1, phase := .placed }))

/-- R306: `PL_RUN` is `PL_START` from `MATRIX`, then `PL_BIT` until the phase changes, as one command: what raises
inside it raises with the word of `PL_RUN` from the state before it. -/
def Obligations.PlRun : Prop :=
  ∀ s : State, 1 ≤ s.ver.toNat → s.ver.toNat ≤ 40 →
    (s.phase = .matrix → s.fnmask ≠ 0b1111#4 → Raises .plRun s .sequenceError) ∧
    (∀ u t, s.phase = .matrix → exec .plStart s = .next u → u.phase = .placing → exec .plRun u = .next t →
      (t.phase = .placed → exec .plRun s = .next t) ∧ (t.phase = .error → Raises .plRun s t.err)) ∧
    (∀ u, s.phase = .placing → PlacerCoherent s → exec .plBit s = .next u →
      (u.phase = .error → Raises .plRun s u.err) ∧
      (u.phase = .placed → exec .plRun s = .next u) ∧
      (u.phase = .placing → ∀ t, exec .plRun u = .next t →
        (t.phase = .placed → exec .plRun s = .next t) ∧ (t.phase = .error → Raises .plRun s t.err))) ∧
    ∀ t, (s.phase = .matrix ∨ s.phase = .placing) → exec .plRun s = .next t → t.phase = .placed ∨ t.phase = .error

/-- Placement as a whole, from `MATRIX` (R300, R301, R305, R306; from `PLACING`: `PlRun`): when the `Unset` modules lie outside column 6 and are exactly as many
as the bits, `PL_RUN` puts bit `i` of `S` into the `i`-th of them in zig-zag order and changes no other module. -/
def Obligations.PlacementFills : Prop :=
  ∀ s : State, s.phase = .matrix → s.fnmask = 0b1111#4 → 1 ≤ s.ver.toNat → s.ver.toNat ≤ 40 → 0 < s.slen →
    (∀ r < s.size, s.moduleAt r 6 ≠ .unset) → (freeCells s).length = s.slen →
    ∃ t, exec .plRun s = .next t ∧
      t = { s with
        grid := t.grid, plRow := t.plRow, plColpair := t.plColpair, plDir := t.plDir, plSide := t.plSide,
        plDone := t.plDone, bitpos := t.bitpos, phase := .placed } ∧
      t.bitpos.toNat = s.slen ∧
      (∀ i < s.slen, ∀ rc, (freeCells s)[i]? = some rc → t.moduleAt rc.1 rc.2 = .data (s.streamBit i)) ∧
      ∀ r c, (r, c) ∉ freeCells s → t.moduleAt r c = s.moduleAt r c

/-! The masks (spec/46_mask_evaluator.md). -/

/-- R320, R323, R335: `MK_BIT` returns the condition of its mask at any coordinates, `MK_TRIAL` a score. -/
def Obligations.MaskQueries : Prop :=
  ∀ (m row col : Byte) (s : State),
    let i := row.toNat
    let j := col.toNat
    let answers (cond : Prop) : Prop :=
      (cond → exec (.mkBit m row col) s = .next { s with res := 1 }) ∧
      (¬cond → exec (.mkBit m row col) s = .next { s with res := 0 })
    (s.phase ≠ .error → 7 < m.toNat → Raises (.mkBit m row col) s .operandRange) ∧
    (s.phase ≠ .error → (m = 0 → answers ((i + j) % 2 = 0)) ∧ (m = 1 → answers (i % 2 = 0)) ∧
      (m = 2 → answers (j % 3 = 0)) ∧ (m = 3 → answers ((i + j) % 3 = 0)) ∧
      (m = 4 → answers ((i / 2 + j / 3) % 2 = 0)) ∧ (m = 5 → answers ((i * j) % 2 + (i * j) % 3 = 0)) ∧
      (m = 6 → answers (((i * j) % 2 + (i * j) % 3) % 2 = 0)) ∧
      (m = 7 → answers (((i + j) % 2 + (i * j) % 3) % 2 = 0))) ∧
    (s.phase = .selected ∨ s.phase = .done →
      (7 < m.toNat → Raises (.mkTrial m) s .operandRange) ∧
      ∀ h : m.toNat < 8, exec (.mkTrial m) s = .next { s with res := s.trial[m.toNat] })

/-- R321, R322: `MK_APPLY` inverts the data modules its mask selects and nothing else, records the mask, and takes it
out again; masks are involutions and commute. -/
def Obligations.MkApply : Prop :=
  (∀ (m : Byte) (s : State), s.phase = .placed → Square s.size s.grid →
    let flipped (t : State) : Prop := ∀ r c, t.moduleAt r c =
      match s.moduleAt r c with
      | .data d => .data (if r < s.size ∧ c < s.size ∧ maskBit m.toNat r c = true then !d else d)
      | x => x
    (7 < m.toNat → Raises (.mkApply m) s .operandRange) ∧
    (m.toNat ≤ 7 → s.applied = none → ∃ t, exec (.mkApply m) s = .next t ∧
      t = { s with grid := t.grid, applied := t.applied } ∧ appliedCode t.applied = m.toNat ∧ flipped t) ∧
    (m.toNat ≤ 7 → appliedCode s.applied = m.toNat → ∃ t, exec (.mkApply m) s = .next t ∧
      t = { s with grid := t.grid, applied := none } ∧ flipped t) ∧
    (m.toNat ≤ 7 → s.applied ≠ none → appliedCode s.applied ≠ m.toNat → Raises (.mkApply m) s .sequenceError)) ∧
  ∀ (n a b : Nat) (g : List (List Module)), Square n g →
    flipGrid n a (flipGrid n a g) = g ∧ flipGrid n a (flipGrid n b g) = flipGrid n b (flipGrid n a g)

/-- N1 counted another way (R327): a run of length `L >= 5` adds `3 + (L - 5)`, which is one for each place where five
values in a row are equal and two more for the place where the run starts. -/
def Obligations.RunPenalty : Prop :=
  ∀ line : List Bool, lineN1 line = windowsOfFive line + 2 * runsOfFive line

/-- What the four parts of the penalty count, for every grid of a symbol's size (R325, R327 to R330), said by rows `row r`
and columns `col c`; the bounds R331 infers from these (the spec's own inference); and that `MK_PEN` returns the parts
and the sum whole (R332). -/
def Obligations.PenaltyBounds : Prop :=
  (∀ (p : Params) (size : Nat) (g : List (List Module)), 21 ≤ size →
    let dark (r c : Nat) : Bool := darkOf (gridAt g r c)
    let row (r : Nat) : List Bool := (List.range size).map fun c => dark r c
    let col (c : Nat) : List Bool := (List.range size).map fun r => dark r c
    let tot := size * size
    let darks := sumBelow size fun r => (List.range size).countP fun c => dark r c
    penaltyN1 size g = sumBelow size (fun i =>
      windowsOfFive (row i) + 2 * runsOfFive (row i) + (windowsOfFive (col i) + 2 * runsOfFive (col i))) ∧
    penaltyN2 size g = 3 * sumBelow (size - 1) (fun r => (List.range (size - 1)).countP fun c =>
      dark r c == dark r (c + 1) && dark r c == dark (r + 1) c && dark r c == dark (r + 1) (c + 1)) ∧
    (∀ outside : Bool, penaltyN3 outside size g = 40 * sumBelow size (fun i =>
      (List.range (size - 6)).countP (hitAt outside size fun c => dark i c) +
      (List.range (size - 6)).countP (hitAt outside size fun r => dark r i))) ∧
    penaltyN4 .exact size g = 10 * ((50 * tot - 100 * darks : Int).natAbs / (5 * tot)) ∧
    penaltyN4 .floorPercent size g = 10 * ((50 - (100 * darks / tot : Nat) : Int).natAbs / 5) ∧
    penalty p size g = penaltyN1 size g + penaltyN2 size g + penaltyN3 p.n3OutsideLight size g
      + penaltyN4 p.n4Mode size g) ∧
  (∀ (size : Nat) (g : List (List Module)) (outside : Bool) (mode : N4Mode), 21 ≤ size →
    penaltyN1 size g ≤ 2 * size * (size - 2) ∧ penaltyN2 size g ≤ 3 * (size - 1) ^ 2 ∧
    penaltyN3 outside size g ≤ 80 * size * (size - 6) ∧ penaltyN4 mode size g ≤ 100) ∧
  (∀ (p : Params) (size : Nat) (g : List (List Module)), 21 ≤ size → size ≤ 177 → penalty p size g < 2 ^ 22) ∧
  ∀ (k : Byte) (s : State), s.phase = .placed ∨ s.phase = .selected ∨ s.phase = .done →
    (4 < k.toNat → Raises (.mkPen k) s .operandRange) ∧
    (k.toNat ≤ 4 → 1 ≤ s.ver.toNat → s.ver.toNat ≤ 40 → ∃ v : Word, exec (.mkPen k) s = .next { s with res := v } ∧
      (k = 0 → v.toNat = penaltyN1 s.size s.grid + penaltyN2 s.size s.grid
        + penaltyN3 s.params.n3OutsideLight s.size s.grid + penaltyN4 s.params.n4Mode s.size s.grid) ∧
      (k = 1 → v.toNat = penaltyN1 s.size s.grid) ∧ (k = 2 → v.toNat = penaltyN2 s.size s.grid) ∧
      (k = 3 → v.toNat = penaltyN3 s.params.n3OutsideLight s.size s.grid) ∧
      (k = 4 → v.toNat = penaltyN4 s.params.n4Mode s.size s.grid))

/-- R334, R336: `MK_SELECT` scores the eight masked grids, keeps the first of the lowest, and leaves exactly that
mask's grid with its format word; the scores, the mask and its score are recorded. -/
def Obligations.MkSelect : Prop :=
  ∀ s : State, s.phase = .placed → 1 ≤ s.ver.toNat → s.ver.toNat ≤ 40 → Square s.size s.grid →
    (s.applied ≠ none → Raises .mkSelect s .sequenceError) ∧
    (s.applied = none → ∃ t, exec .mkSelect s = .next t ∧
      t = { s with
        grid := trialGrid s t.bestmask.toNat, trial := t.trial, applied := some t.bestmask, bestmask := t.bestmask,
        bestscore := t.bestscore, phase := .selected } ∧
      (∀ m : Fin 8, (t.trial[m]).toNat = trialScore s m) ∧
      t.bestscore.toNat = trialScore s t.bestmask.toNat ∧
      (∀ m < 8, trialScore s t.bestmask.toNat ≤ trialScore s m) ∧
      (∀ m < t.bestmask.toNat, trialScore s t.bestmask.toNat < trialScore s m) ∧
      exec (.mkPen 0) t = .next { t with res := t.bestscore })

/-! Metadata (spec/47_metadata.md). -/

/-- R351, R352, R357, R358: the code word a query returns has its data bits on top and is divisible by its generator
(after the format mask is taken off), and the operands the two queries refuse. -/
def Obligations.CodeWords : Prop :=
  ∀ s : State, s.phase ≠ .error →
    (∀ e m : Byte, (3 < e.toNat → Raises (.fmtWord e m) s .operandRange) ∧
      (7 < m.toNat → Raises (.fmtWord e m) s .operandRange) ∧
      (e.toNat ≤ 3 → m.toNat ≤ 7 → ∃ w : BitVec 15, exec (.fmtWord e m) s = .next { s with res := w.setWidth 32 } ∧
        (w ^^^ 0x5412#15).toNat / 2 ^ 10 = [0b01, 0b00, 0b11, 0b10].getD e.toNat 0 * 8 + m.toNat ∧
        polyRem (w ^^^ 0x5412#15).toNat 0x537 10 14 = 0)) ∧
    (∀ v : Byte, (¬(7 ≤ v.toNat ∧ v.toNat ≤ 40) → Raises (.verWord v) s .operandRange) ∧
      (7 ≤ v.toNat → v.toNat ≤ 40 → ∃ w : BitVec 18, exec (.verWord v) s = .next { s with res := w.setWidth 32 } ∧
        w.toNat / 2 ^ 12 = v.toNat ∧ polyRem w.toNat 0x1F25 12 17 = 0))

/-- R355, R356, R359, R360: bit `i` of the format word in the two cells of R353, of the version word in the two of R354,
and every other module as before; `MD_VER` opens `DONE` for every version. -/
def Obligations.MetadataCells : Prop :=
  ∀ s : State, 1 ≤ s.ver.toNat → s.ver.toNat ≤ 40 →
    (s.phase = .placed → ∀ m : Byte,
      (7 < m.toNat → Raises (.mdFmt m) s .operandRange) ∧
      (m.toNat ≤ 7 → ∃ t, exec (.mdFmt m) s = .next t ∧ t = { s with grid := t.grid } ∧
        (∀ i rc, (formatCopyA[i]? = some rc ∨ (formatCopyB s.size)[i]? = some rc) →
          t.moduleAt rc.1 rc.2 = .function ((fmtWord s.ecl m.toNat).getLsbD i)) ∧
        ∀ r c, (r, c) ∉ formatCopyA ++ formatCopyB s.size → t.moduleAt r c = s.moduleAt r c)) ∧
    (s.phase = .selected → ∃ t, exec .mdVer s = .next t ∧ t = { s with grid := t.grid, phase := .done } ∧
      (s.ver.toNat < 7 → t.grid = s.grid) ∧
      (7 ≤ s.ver.toNat → ∀ i < 18, ∀ rc ∈ versionCells s.size i,
        t.moduleAt rc.1 rc.2 = .function ((verWord s.ver.toNat).getLsbD i)) ∧
      ∀ r c, (∀ i < 18, (r, c) ∉ versionCells s.size i) → t.moduleAt r c = s.moduleAt r c)
end

