-- ==== Sys2Proof/Laws/Assembler.lean ====
section
/-! SUPPORT. The assembler gives back a command from its mnemonic and operands (R140). -/
namespace Sys2Proof.Machine

theorem byteOperand_toNat (a : Byte) : byteOperand a.toNat = some a := by
  simp [byteOperand, a.isLt]

theorem halfOperand_toNat (a : BitVec 16) : halfOperand a.toNat = some a := by
  simp [halfOperand, a.isLt]

theorem asmC1_toNat (k : Byte → Instr) (a : Byte) : asmC1 k [a.toNat] = some (k a) := by
  simp [asmC1, byteOperand_toNat]

theorem asmC2_toNat (k : Byte → Byte → Instr) (a b : Byte) : asmC2 k [a.toNat, b.toNat] = some (k a b) := by
  simp [asmC2, byteOperand_toNat]

theorem asmC3_toNat (k : Byte → Byte → Byte → Instr) (a b c : Byte) :
    asmC3 k [a.toNat, b.toNat, c.toNat] = some (k a b c) := by
  simp [asmC3, byteOperand_toNat]

theorem asmH_toNat (k : BitVec 16 → Instr) (a : BitVec 16) : asmH k [a.toNat] = some (k a) := by
  simp [asmH, halfOperand_toNat]

/-- Every command is what its own mnemonic and operands assemble to. -/
theorem assemble_mnemonic (i : Instr) : assemble (mnemonic i) (operands i) = some i := by
  cases i <;> first
    | rfl
    | exact asmC1_toNat _ _
    | exact asmC2_toNat _ _ _
    | exact asmC3_toNat _ _ _ _
    | exact asmH_toNat _ _

end Sys2Proof.Machine
end

