-- ==== Sys2Proof/Laws/Decode.lean ====
section
/-! SUPPORT. The fields of a command word, read back (spec/30_encoding.md R130, R131). -/
namespace Sys2Proof

@[simp] theorem opField_fieldsWord (op f2 f1 f0 : Byte) : opField (fieldsWord op f2 f1 f0) = op := by
  ext i h
  simp only [opField, fieldsWord, BitVec.getElem_extractLsb', BitVec.getLsbD_append]
  rw [if_neg (by omega), if_neg (by omega), if_neg (by omega)]
  simp [BitVec.getLsbD_eq_getElem, show 24 + i - 8 - 8 - 8 = i by omega, h]

@[simp] theorem f2Field_fieldsWord (op f2 f1 f0 : Byte) : f2Field (fieldsWord op f2 f1 f0) = f2 := by
  ext i h
  simp only [f2Field, fieldsWord, BitVec.getElem_extractLsb', BitVec.getLsbD_append]
  rw [if_neg (by omega), if_neg (by omega), if_pos (by omega)]
  simp [BitVec.getLsbD_eq_getElem, show 16 + i - 8 - 8 = i by omega, h]

@[simp] theorem f1Field_fieldsWord (op f2 f1 f0 : Byte) : f1Field (fieldsWord op f2 f1 f0) = f1 := by
  ext i h
  simp only [f1Field, fieldsWord, BitVec.getElem_extractLsb', BitVec.getLsbD_append]
  rw [if_neg (by omega), if_pos (by omega)]
  simp [BitVec.getLsbD_eq_getElem, show 8 + i - 8 = i by omega, h]

@[simp] theorem f0Field_fieldsWord (op f2 f1 f0 : Byte) : f0Field (fieldsWord op f2 f1 f0) = f0 := by
  ext i h
  simp only [f0Field, fieldsWord, BitVec.getElem_extractLsb', BitVec.getLsbD_append]
  rw [if_pos (by omega)]
  simp [BitVec.getLsbD_eq_getElem, h]

@[simp] theorem opField_halfWord (op : Byte) (h : BitVec 16) : opField (halfWord op h) = op := by
  ext i hi
  simp only [opField, halfWord, BitVec.getElem_extractLsb', BitVec.getLsbD_append]
  rw [if_neg (by omega), if_neg (by omega)]
  simp [BitVec.getLsbD_eq_getElem, show 24 + i - 16 - 8 = i by omega, hi]

@[simp] theorem hField_halfWord (op : Byte) (h : BitVec 16) : hField (halfWord op h) = h := by
  ext i hi
  simp only [hField, halfWord, BitVec.getElem_extractLsb', BitVec.getLsbD_append]
  rw [if_pos (by omega)]
  simp [BitVec.getLsbD_eq_getElem, hi]

/-- Every bit of a word, by the field it lies in. -/
theorem getLsbD_fieldsWord (op f2 f1 f0 : Byte) (i : Nat) :
    (fieldsWord op f2 f1 f0).getLsbD i =
      if i < 8 then f0.getLsbD i
      else if i - 8 < 8 then f1.getLsbD (i - 8)
      else if i - 8 - 8 < 8 then f2.getLsbD (i - 8 - 8)
      else op.getLsbD (i - 8 - 8 - 8) := by
  show BitVec.getLsbD (op ++ f2 ++ f1 ++ f0) i = _
  rw [BitVec.getLsbD_append, BitVec.getLsbD_append, BitVec.getLsbD_append]

theorem getLsbD_halfWord (op : Byte) (h : BitVec 16) (i : Nat) :
    (halfWord op h).getLsbD i =
      if i < 16 then h.getLsbD i else if i - 16 < 8 then false else op.getLsbD (i - 16 - 8) := by
  show BitVec.getLsbD (op ++ 0#8 ++ h) i = _
  rw [BitVec.getLsbD_append, BitVec.getLsbD_append, BitVec.getLsbD_zero]

/-- A word is its four byte fields. -/
theorem fieldsWord_fields (w : Word) : fieldsWord (opField w) (f2Field w) (f1Field w) (f0Field w) = w := by
  refine BitVec.eq_of_getLsbD_eq fun i h => ?_
  rw [getLsbD_fieldsWord]
  simp only [opField, f2Field, f1Field, f0Field, BitVec.getLsbD_extractLsb']
  split
  · next h1 => simp [h1]
  split
  · next h1 => simp [h1, show 8 + (i - 8) = i by omega]
  split
  · next h1 => simp [h1, show 16 + (i - 8 - 8) = i by omega]
  · next h1 => simp [show i - 8 - 8 - 8 < 8 by omega, show 24 + (i - 8 - 8 - 8) = i by omega]

/-- A half-word command's word is its opcode, a zero byte and its operand. -/
theorem halfWord_fields (op : Byte) (h : BitVec 16) :
    halfWord op h = fieldsWord op 0 (h.extractLsb' 8 8) (h.extractLsb' 0 8) := by
  refine BitVec.eq_of_getLsbD_eq fun i hi => ?_
  rw [getLsbD_fieldsWord, getLsbD_halfWord]
  simp only [BitVec.getLsbD_extractLsb', BitVec.ofNat_eq_ofNat, BitVec.getLsbD_zero]
  rcases Nat.lt_or_ge i 8 with h1 | h1
  · simp [h1, show i < 16 by omega]
  rcases Nat.lt_or_ge i 16 with h2 | h2
  · simp [h2, show ¬i < 8 by omega, show i - 8 < 8 by omega, show 8 + (i - 8) = i by omega]
  rcases Nat.lt_or_ge i 24 with h3 | h3
  · simp [show ¬i < 8 by omega, show ¬i < 16 by omega, show ¬i - 8 < 8 by omega, show i - 16 < 8 by omega,
      show i - 8 - 8 < 8 by omega]
  · simp [show ¬i < 8 by omega, show ¬i < 16 by omega, show ¬i - 8 < 8 by omega, show ¬i - 16 < 8 by omega,
      show ¬i - 8 - 8 < 8 by omega, show i - 16 - 8 = i - 8 - 8 - 8 by omega]

end Sys2Proof
end

