-- ==== Sys2Proof/Laws/State.lean ====
section
/-! SUPPORT. What each named update does to each field of the state. Generated from the fields of `State`; every
lemma is true by unfolding the update, and tagged for `simp`. -/
namespace Sys2Proof.Machine

/-! `raise` -/

@[simp] theorem raise_phase (e : ErrCode) (w : Word) (s : State) : (raise e w s).phase = .error := rfl
@[simp] theorem raise_err (e : ErrCode) (w : Word) (s : State) : (raise e w s).err = e := rfl
@[simp] theorem raise_errcmd (e : ErrCode) (w : Word) (s : State) : (raise e w s).errcmd = w := rfl
@[simp] theorem raise_res (e : ErrCode) (w : Word) (s : State) : (raise e w s).res = s.res := rfl
@[simp] theorem raise_ver (e : ErrCode) (w : Word) (s : State) : (raise e w s).ver = s.ver := rfl
@[simp] theorem raise_ecl (e : ErrCode) (w : Word) (s : State) : (raise e w s).ecl = s.ecl := rfl
@[simp] theorem raise_mode (e : ErrCode) (w : Word) (s : State) : (raise e w s).mode = s.mode := rfl
@[simp] theorem raise_enc (e : ErrCode) (w : Word) (s : State) : (raise e w s).enc = s.enc := rfl
@[simp] theorem raise_bitlen (e : ErrCode) (w : Word) (s : State) : (raise e w s).bitlen = s.bitlen := rfl
@[simp] theorem raise_bitbuf (e : ErrCode) (w : Word) (s : State) : (raise e w s).bitbuf = s.bitbuf := rfl
@[simp] theorem raise_decl (e : ErrCode) (w : Word) (s : State) : (raise e w s).decl = s.decl := rfl
@[simp] theorem raise_chars (e : ErrCode) (w : Word) (s : State) : (raise e w s).chars = s.chars := rfl
@[simp] theorem raise_tail (e : ErrCode) (w : Word) (s : State) : (raise e w s).tail = s.tail := rfl
@[simp] theorem raise_rsK (e : ErrCode) (w : Word) (s : State) : (raise e w s).rsK = s.rsK := rfl
@[simp] theorem raise_rsR (e : ErrCode) (w : Word) (s : State) : (raise e w s).rsR = s.rsR := rfl
@[simp] theorem raise_rsFill (e : ErrCode) (w : Word) (s : State) : (raise e w s).rsFill = s.rsFill := rfl
@[simp] theorem raise_rsHead (e : ErrCode) (w : Word) (s : State) : (raise e w s).rsHead = s.rsHead := rfl
@[simp] theorem raise_rsbuf (e : ErrCode) (w : Word) (s : State) : (raise e w s).rsbuf = s.rsbuf := rfl
@[simp] theorem raise_synR (e : ErrCode) (w : Word) (s : State) : (raise e w s).synR = s.synR := rfl
@[simp] theorem raise_syn (e : ErrCode) (w : Word) (s : State) : (raise e w s).syn = s.syn := rfl
@[simp] theorem raise_par (e : ErrCode) (w : Word) (s : State) : (raise e w s).par = s.par := rfl
@[simp] theorem raise_cw (e : ErrCode) (w : Word) (s : State) : (raise e w s).cw = s.cw := rfl
@[simp] theorem raise_cwlen (e : ErrCode) (w : Word) (s : State) : (raise e w s).cwlen = s.cwlen := rfl
@[simp] theorem raise_grid (e : ErrCode) (w : Word) (s : State) : (raise e w s).grid = s.grid := rfl
@[simp] theorem raise_fnmask (e : ErrCode) (w : Word) (s : State) : (raise e w s).fnmask = s.fnmask := rfl
@[simp] theorem raise_plRow (e : ErrCode) (w : Word) (s : State) : (raise e w s).plRow = s.plRow := rfl
@[simp] theorem raise_plColpair (e : ErrCode) (w : Word) (s : State) : (raise e w s).plColpair = s.plColpair := rfl
@[simp] theorem raise_plDir (e : ErrCode) (w : Word) (s : State) : (raise e w s).plDir = s.plDir := rfl
@[simp] theorem raise_plSide (e : ErrCode) (w : Word) (s : State) : (raise e w s).plSide = s.plSide := rfl
@[simp] theorem raise_plDone (e : ErrCode) (w : Word) (s : State) : (raise e w s).plDone = s.plDone := rfl
@[simp] theorem raise_bitpos (e : ErrCode) (w : Word) (s : State) : (raise e w s).bitpos = s.bitpos := rfl
@[simp] theorem raise_applied (e : ErrCode) (w : Word) (s : State) : (raise e w s).applied = s.applied := rfl
@[simp] theorem raise_bestmask (e : ErrCode) (w : Word) (s : State) : (raise e w s).bestmask = s.bestmask := rfl
@[simp] theorem raise_bestscore (e : ErrCode) (w : Word) (s : State) : (raise e w s).bestscore = s.bestscore := rfl
@[simp] theorem raise_trial (e : ErrCode) (w : Word) (s : State) : (raise e w s).trial = s.trial := rfl
@[simp] theorem raise_params (e : ErrCode) (w : Word) (s : State) : (raise e w s).params = s.params := rfl
@[simp] theorem raise_pending (e : ErrCode) (w : Word) (s : State) : (raise e w s).pending = s.pending := rfl
@[simp] theorem raise_replies (e : ErrCode) (w : Word) (s : State) : (raise e w s).replies = s.replies := rfl

/-! `setRes` -/

@[simp] theorem setRes_phase (v : Word) (s : State) : (setRes v s).phase = s.phase := rfl
@[simp] theorem setRes_err (v : Word) (s : State) : (setRes v s).err = s.err := rfl
@[simp] theorem setRes_errcmd (v : Word) (s : State) : (setRes v s).errcmd = s.errcmd := rfl
@[simp] theorem setRes_res (v : Word) (s : State) : (setRes v s).res = v := rfl
@[simp] theorem setRes_ver (v : Word) (s : State) : (setRes v s).ver = s.ver := rfl
@[simp] theorem setRes_ecl (v : Word) (s : State) : (setRes v s).ecl = s.ecl := rfl
@[simp] theorem setRes_mode (v : Word) (s : State) : (setRes v s).mode = s.mode := rfl
@[simp] theorem setRes_enc (v : Word) (s : State) : (setRes v s).enc = s.enc := rfl
@[simp] theorem setRes_bitlen (v : Word) (s : State) : (setRes v s).bitlen = s.bitlen := rfl
@[simp] theorem setRes_bitbuf (v : Word) (s : State) : (setRes v s).bitbuf = s.bitbuf := rfl
@[simp] theorem setRes_decl (v : Word) (s : State) : (setRes v s).decl = s.decl := rfl
@[simp] theorem setRes_chars (v : Word) (s : State) : (setRes v s).chars = s.chars := rfl
@[simp] theorem setRes_tail (v : Word) (s : State) : (setRes v s).tail = s.tail := rfl
@[simp] theorem setRes_rsK (v : Word) (s : State) : (setRes v s).rsK = s.rsK := rfl
@[simp] theorem setRes_rsR (v : Word) (s : State) : (setRes v s).rsR = s.rsR := rfl
@[simp] theorem setRes_rsFill (v : Word) (s : State) : (setRes v s).rsFill = s.rsFill := rfl
@[simp] theorem setRes_rsHead (v : Word) (s : State) : (setRes v s).rsHead = s.rsHead := rfl
@[simp] theorem setRes_rsbuf (v : Word) (s : State) : (setRes v s).rsbuf = s.rsbuf := rfl
@[simp] theorem setRes_synR (v : Word) (s : State) : (setRes v s).synR = s.synR := rfl
@[simp] theorem setRes_syn (v : Word) (s : State) : (setRes v s).syn = s.syn := rfl
@[simp] theorem setRes_par (v : Word) (s : State) : (setRes v s).par = s.par := rfl
@[simp] theorem setRes_cw (v : Word) (s : State) : (setRes v s).cw = s.cw := rfl
@[simp] theorem setRes_cwlen (v : Word) (s : State) : (setRes v s).cwlen = s.cwlen := rfl
@[simp] theorem setRes_grid (v : Word) (s : State) : (setRes v s).grid = s.grid := rfl
@[simp] theorem setRes_fnmask (v : Word) (s : State) : (setRes v s).fnmask = s.fnmask := rfl
@[simp] theorem setRes_plRow (v : Word) (s : State) : (setRes v s).plRow = s.plRow := rfl
@[simp] theorem setRes_plColpair (v : Word) (s : State) : (setRes v s).plColpair = s.plColpair := rfl
@[simp] theorem setRes_plDir (v : Word) (s : State) : (setRes v s).plDir = s.plDir := rfl
@[simp] theorem setRes_plSide (v : Word) (s : State) : (setRes v s).plSide = s.plSide := rfl
@[simp] theorem setRes_plDone (v : Word) (s : State) : (setRes v s).plDone = s.plDone := rfl
@[simp] theorem setRes_bitpos (v : Word) (s : State) : (setRes v s).bitpos = s.bitpos := rfl
@[simp] theorem setRes_applied (v : Word) (s : State) : (setRes v s).applied = s.applied := rfl
@[simp] theorem setRes_bestmask (v : Word) (s : State) : (setRes v s).bestmask = s.bestmask := rfl
@[simp] theorem setRes_bestscore (v : Word) (s : State) : (setRes v s).bestscore = s.bestscore := rfl
@[simp] theorem setRes_trial (v : Word) (s : State) : (setRes v s).trial = s.trial := rfl
@[simp] theorem setRes_params (v : Word) (s : State) : (setRes v s).params = s.params := rfl
@[simp] theorem setRes_pending (v : Word) (s : State) : (setRes v s).pending = s.pending := rfl
@[simp] theorem setRes_replies (v : Word) (s : State) : (setRes v s).replies = s.replies := rfl

/-! `pushBits` -/

@[simp] theorem pushBits_phase (bs : List Bool) (s : State) : (pushBits bs s).phase = s.phase := rfl
@[simp] theorem pushBits_err (bs : List Bool) (s : State) : (pushBits bs s).err = s.err := rfl
@[simp] theorem pushBits_errcmd (bs : List Bool) (s : State) : (pushBits bs s).errcmd = s.errcmd := rfl
@[simp] theorem pushBits_res (bs : List Bool) (s : State) : (pushBits bs s).res = s.res := rfl
@[simp] theorem pushBits_ver (bs : List Bool) (s : State) : (pushBits bs s).ver = s.ver := rfl
@[simp] theorem pushBits_ecl (bs : List Bool) (s : State) : (pushBits bs s).ecl = s.ecl := rfl
@[simp] theorem pushBits_mode (bs : List Bool) (s : State) : (pushBits bs s).mode = s.mode := rfl
@[simp] theorem pushBits_enc (bs : List Bool) (s : State) : (pushBits bs s).enc = s.enc := rfl
@[simp] theorem pushBits_bitlen (bs : List Bool) (s : State) : (pushBits bs s).bitlen = BitVec.ofNat 15 (s.bitlen.toNat + bs.length) := rfl
@[simp] theorem pushBits_bitbuf (bs : List Bool) (s : State) : (pushBits bs s).bitbuf = writeFrom Config.unwrittenBit s.bitbuf s.bitlen.toNat bs := rfl
@[simp] theorem pushBits_decl (bs : List Bool) (s : State) : (pushBits bs s).decl = s.decl := rfl
@[simp] theorem pushBits_chars (bs : List Bool) (s : State) : (pushBits bs s).chars = s.chars := rfl
@[simp] theorem pushBits_tail (bs : List Bool) (s : State) : (pushBits bs s).tail = s.tail := rfl
@[simp] theorem pushBits_rsK (bs : List Bool) (s : State) : (pushBits bs s).rsK = s.rsK := rfl
@[simp] theorem pushBits_rsR (bs : List Bool) (s : State) : (pushBits bs s).rsR = s.rsR := rfl
@[simp] theorem pushBits_rsFill (bs : List Bool) (s : State) : (pushBits bs s).rsFill = s.rsFill := rfl
@[simp] theorem pushBits_rsHead (bs : List Bool) (s : State) : (pushBits bs s).rsHead = s.rsHead := rfl
@[simp] theorem pushBits_rsbuf (bs : List Bool) (s : State) : (pushBits bs s).rsbuf = s.rsbuf := rfl
@[simp] theorem pushBits_synR (bs : List Bool) (s : State) : (pushBits bs s).synR = s.synR := rfl
@[simp] theorem pushBits_syn (bs : List Bool) (s : State) : (pushBits bs s).syn = s.syn := rfl
@[simp] theorem pushBits_par (bs : List Bool) (s : State) : (pushBits bs s).par = s.par := rfl
@[simp] theorem pushBits_cw (bs : List Bool) (s : State) : (pushBits bs s).cw = s.cw := rfl
@[simp] theorem pushBits_cwlen (bs : List Bool) (s : State) : (pushBits bs s).cwlen = s.cwlen := rfl
@[simp] theorem pushBits_grid (bs : List Bool) (s : State) : (pushBits bs s).grid = s.grid := rfl
@[simp] theorem pushBits_fnmask (bs : List Bool) (s : State) : (pushBits bs s).fnmask = s.fnmask := rfl
@[simp] theorem pushBits_plRow (bs : List Bool) (s : State) : (pushBits bs s).plRow = s.plRow := rfl
@[simp] theorem pushBits_plColpair (bs : List Bool) (s : State) : (pushBits bs s).plColpair = s.plColpair := rfl
@[simp] theorem pushBits_plDir (bs : List Bool) (s : State) : (pushBits bs s).plDir = s.plDir := rfl
@[simp] theorem pushBits_plSide (bs : List Bool) (s : State) : (pushBits bs s).plSide = s.plSide := rfl
@[simp] theorem pushBits_plDone (bs : List Bool) (s : State) : (pushBits bs s).plDone = s.plDone := rfl
@[simp] theorem pushBits_bitpos (bs : List Bool) (s : State) : (pushBits bs s).bitpos = s.bitpos := rfl
@[simp] theorem pushBits_applied (bs : List Bool) (s : State) : (pushBits bs s).applied = s.applied := rfl
@[simp] theorem pushBits_bestmask (bs : List Bool) (s : State) : (pushBits bs s).bestmask = s.bestmask := rfl
@[simp] theorem pushBits_bestscore (bs : List Bool) (s : State) : (pushBits bs s).bestscore = s.bestscore := rfl
@[simp] theorem pushBits_trial (bs : List Bool) (s : State) : (pushBits bs s).trial = s.trial := rfl
@[simp] theorem pushBits_params (bs : List Bool) (s : State) : (pushBits bs s).params = s.params := rfl
@[simp] theorem pushBits_pending (bs : List Bool) (s : State) : (pushBits bs s).pending = s.pending := rfl
@[simp] theorem pushBits_replies (bs : List Bool) (s : State) : (pushBits bs s).replies = s.replies := rfl

/-! `countChars` -/

@[simp] theorem countChars_phase (n : Nat) (s : State) : (countChars n s).phase = s.phase := rfl
@[simp] theorem countChars_err (n : Nat) (s : State) : (countChars n s).err = s.err := rfl
@[simp] theorem countChars_errcmd (n : Nat) (s : State) : (countChars n s).errcmd = s.errcmd := rfl
@[simp] theorem countChars_res (n : Nat) (s : State) : (countChars n s).res = s.res := rfl
@[simp] theorem countChars_ver (n : Nat) (s : State) : (countChars n s).ver = s.ver := rfl
@[simp] theorem countChars_ecl (n : Nat) (s : State) : (countChars n s).ecl = s.ecl := rfl
@[simp] theorem countChars_mode (n : Nat) (s : State) : (countChars n s).mode = s.mode := rfl
@[simp] theorem countChars_enc (n : Nat) (s : State) : (countChars n s).enc = s.enc := rfl
@[simp] theorem countChars_bitlen (n : Nat) (s : State) : (countChars n s).bitlen = s.bitlen := rfl
@[simp] theorem countChars_bitbuf (n : Nat) (s : State) : (countChars n s).bitbuf = s.bitbuf := rfl
@[simp] theorem countChars_decl (n : Nat) (s : State) : (countChars n s).decl = s.decl := rfl
@[simp] theorem countChars_chars (n : Nat) (s : State) : (countChars n s).chars = BitVec.ofNat 16 (s.chars.toNat + n) := rfl
@[simp] theorem countChars_tail (n : Nat) (s : State) : (countChars n s).tail = s.tail := rfl
@[simp] theorem countChars_rsK (n : Nat) (s : State) : (countChars n s).rsK = s.rsK := rfl
@[simp] theorem countChars_rsR (n : Nat) (s : State) : (countChars n s).rsR = s.rsR := rfl
@[simp] theorem countChars_rsFill (n : Nat) (s : State) : (countChars n s).rsFill = s.rsFill := rfl
@[simp] theorem countChars_rsHead (n : Nat) (s : State) : (countChars n s).rsHead = s.rsHead := rfl
@[simp] theorem countChars_rsbuf (n : Nat) (s : State) : (countChars n s).rsbuf = s.rsbuf := rfl
@[simp] theorem countChars_synR (n : Nat) (s : State) : (countChars n s).synR = s.synR := rfl
@[simp] theorem countChars_syn (n : Nat) (s : State) : (countChars n s).syn = s.syn := rfl
@[simp] theorem countChars_par (n : Nat) (s : State) : (countChars n s).par = s.par := rfl
@[simp] theorem countChars_cw (n : Nat) (s : State) : (countChars n s).cw = s.cw := rfl
@[simp] theorem countChars_cwlen (n : Nat) (s : State) : (countChars n s).cwlen = s.cwlen := rfl
@[simp] theorem countChars_grid (n : Nat) (s : State) : (countChars n s).grid = s.grid := rfl
@[simp] theorem countChars_fnmask (n : Nat) (s : State) : (countChars n s).fnmask = s.fnmask := rfl
@[simp] theorem countChars_plRow (n : Nat) (s : State) : (countChars n s).plRow = s.plRow := rfl
@[simp] theorem countChars_plColpair (n : Nat) (s : State) : (countChars n s).plColpair = s.plColpair := rfl
@[simp] theorem countChars_plDir (n : Nat) (s : State) : (countChars n s).plDir = s.plDir := rfl
@[simp] theorem countChars_plSide (n : Nat) (s : State) : (countChars n s).plSide = s.plSide := rfl
@[simp] theorem countChars_plDone (n : Nat) (s : State) : (countChars n s).plDone = s.plDone := rfl
@[simp] theorem countChars_bitpos (n : Nat) (s : State) : (countChars n s).bitpos = s.bitpos := rfl
@[simp] theorem countChars_applied (n : Nat) (s : State) : (countChars n s).applied = s.applied := rfl
@[simp] theorem countChars_bestmask (n : Nat) (s : State) : (countChars n s).bestmask = s.bestmask := rfl
@[simp] theorem countChars_bestscore (n : Nat) (s : State) : (countChars n s).bestscore = s.bestscore := rfl
@[simp] theorem countChars_trial (n : Nat) (s : State) : (countChars n s).trial = s.trial := rfl
@[simp] theorem countChars_params (n : Nat) (s : State) : (countChars n s).params = s.params := rfl
@[simp] theorem countChars_pending (n : Nat) (s : State) : (countChars n s).pending = s.pending := rfl
@[simp] theorem countChars_replies (n : Nat) (s : State) : (countChars n s).replies = s.replies := rfl

/-! `setTail` -/

@[simp] theorem setTail_phase (s : State) : (setTail s).phase = s.phase := rfl
@[simp] theorem setTail_err (s : State) : (setTail s).err = s.err := rfl
@[simp] theorem setTail_errcmd (s : State) : (setTail s).errcmd = s.errcmd := rfl
@[simp] theorem setTail_res (s : State) : (setTail s).res = s.res := rfl
@[simp] theorem setTail_ver (s : State) : (setTail s).ver = s.ver := rfl
@[simp] theorem setTail_ecl (s : State) : (setTail s).ecl = s.ecl := rfl
@[simp] theorem setTail_mode (s : State) : (setTail s).mode = s.mode := rfl
@[simp] theorem setTail_enc (s : State) : (setTail s).enc = s.enc := rfl
@[simp] theorem setTail_bitlen (s : State) : (setTail s).bitlen = s.bitlen := rfl
@[simp] theorem setTail_bitbuf (s : State) : (setTail s).bitbuf = s.bitbuf := rfl
@[simp] theorem setTail_decl (s : State) : (setTail s).decl = s.decl := rfl
@[simp] theorem setTail_chars (s : State) : (setTail s).chars = s.chars := rfl
@[simp] theorem setTail_tail (s : State) : (setTail s).tail = true := rfl
@[simp] theorem setTail_rsK (s : State) : (setTail s).rsK = s.rsK := rfl
@[simp] theorem setTail_rsR (s : State) : (setTail s).rsR = s.rsR := rfl
@[simp] theorem setTail_rsFill (s : State) : (setTail s).rsFill = s.rsFill := rfl
@[simp] theorem setTail_rsHead (s : State) : (setTail s).rsHead = s.rsHead := rfl
@[simp] theorem setTail_rsbuf (s : State) : (setTail s).rsbuf = s.rsbuf := rfl
@[simp] theorem setTail_synR (s : State) : (setTail s).synR = s.synR := rfl
@[simp] theorem setTail_syn (s : State) : (setTail s).syn = s.syn := rfl
@[simp] theorem setTail_par (s : State) : (setTail s).par = s.par := rfl
@[simp] theorem setTail_cw (s : State) : (setTail s).cw = s.cw := rfl
@[simp] theorem setTail_cwlen (s : State) : (setTail s).cwlen = s.cwlen := rfl
@[simp] theorem setTail_grid (s : State) : (setTail s).grid = s.grid := rfl
@[simp] theorem setTail_fnmask (s : State) : (setTail s).fnmask = s.fnmask := rfl
@[simp] theorem setTail_plRow (s : State) : (setTail s).plRow = s.plRow := rfl
@[simp] theorem setTail_plColpair (s : State) : (setTail s).plColpair = s.plColpair := rfl
@[simp] theorem setTail_plDir (s : State) : (setTail s).plDir = s.plDir := rfl
@[simp] theorem setTail_plSide (s : State) : (setTail s).plSide = s.plSide := rfl
@[simp] theorem setTail_plDone (s : State) : (setTail s).plDone = s.plDone := rfl
@[simp] theorem setTail_bitpos (s : State) : (setTail s).bitpos = s.bitpos := rfl
@[simp] theorem setTail_applied (s : State) : (setTail s).applied = s.applied := rfl
@[simp] theorem setTail_bestmask (s : State) : (setTail s).bestmask = s.bestmask := rfl
@[simp] theorem setTail_bestscore (s : State) : (setTail s).bestscore = s.bestscore := rfl
@[simp] theorem setTail_trial (s : State) : (setTail s).trial = s.trial := rfl
@[simp] theorem setTail_params (s : State) : (setTail s).params = s.params := rfl
@[simp] theorem setTail_pending (s : State) : (setTail s).pending = s.pending := rfl
@[simp] theorem setTail_replies (s : State) : (setTail s).replies = s.replies := rfl

/-! `rsStep` -/

@[simp] theorem rsStep_phase (s : State) : (rsStep s).phase = s.phase := rfl
@[simp] theorem rsStep_err (s : State) : (rsStep s).err = s.err := rfl
@[simp] theorem rsStep_errcmd (s : State) : (rsStep s).errcmd = s.errcmd := rfl
@[simp] theorem rsStep_res (s : State) : (rsStep s).res = s.res := rfl
@[simp] theorem rsStep_ver (s : State) : (rsStep s).ver = s.ver := rfl
@[simp] theorem rsStep_ecl (s : State) : (rsStep s).ecl = s.ecl := rfl
@[simp] theorem rsStep_mode (s : State) : (rsStep s).mode = s.mode := rfl
@[simp] theorem rsStep_enc (s : State) : (rsStep s).enc = s.enc := rfl
@[simp] theorem rsStep_bitlen (s : State) : (rsStep s).bitlen = s.bitlen := rfl
@[simp] theorem rsStep_bitbuf (s : State) : (rsStep s).bitbuf = s.bitbuf := rfl
@[simp] theorem rsStep_decl (s : State) : (rsStep s).decl = s.decl := rfl
@[simp] theorem rsStep_chars (s : State) : (rsStep s).chars = s.chars := rfl
@[simp] theorem rsStep_tail (s : State) : (rsStep s).tail = s.tail := rfl
@[simp] theorem rsStep_rsK (s : State) : (rsStep s).rsK = s.rsK := rfl
@[simp] theorem rsStep_rsR (s : State) : (rsStep s).rsR = s.rsR := rfl
@[simp] theorem rsStep_rsFill (s : State) : (rsStep s).rsFill = s.rsFill := rfl
@[simp] theorem rsStep_rsHead (s : State) : (rsStep s).rsHead = BitVec.ofNat 8 (s.rsHead.toNat + 1) := rfl
@[simp] theorem rsStep_synR (s : State) : (rsStep s).synR = s.synR := rfl
@[simp] theorem rsStep_syn (s : State) : (rsStep s).syn = s.syn := rfl
@[simp] theorem rsStep_par (s : State) : (rsStep s).par = s.par := rfl
@[simp] theorem rsStep_cw (s : State) : (rsStep s).cw = s.cw := rfl
@[simp] theorem rsStep_cwlen (s : State) : (rsStep s).cwlen = s.cwlen := rfl
@[simp] theorem rsStep_grid (s : State) : (rsStep s).grid = s.grid := rfl
@[simp] theorem rsStep_fnmask (s : State) : (rsStep s).fnmask = s.fnmask := rfl
@[simp] theorem rsStep_plRow (s : State) : (rsStep s).plRow = s.plRow := rfl
@[simp] theorem rsStep_plColpair (s : State) : (rsStep s).plColpair = s.plColpair := rfl
@[simp] theorem rsStep_plDir (s : State) : (rsStep s).plDir = s.plDir := rfl
@[simp] theorem rsStep_plSide (s : State) : (rsStep s).plSide = s.plSide := rfl
@[simp] theorem rsStep_plDone (s : State) : (rsStep s).plDone = s.plDone := rfl
@[simp] theorem rsStep_bitpos (s : State) : (rsStep s).bitpos = s.bitpos := rfl
@[simp] theorem rsStep_applied (s : State) : (rsStep s).applied = s.applied := rfl
@[simp] theorem rsStep_bestmask (s : State) : (rsStep s).bestmask = s.bestmask := rfl
@[simp] theorem rsStep_bestscore (s : State) : (rsStep s).bestscore = s.bestscore := rfl
@[simp] theorem rsStep_trial (s : State) : (rsStep s).trial = s.trial := rfl
@[simp] theorem rsStep_params (s : State) : (rsStep s).params = s.params := rfl
@[simp] theorem rsStep_pending (s : State) : (rsStep s).pending = s.pending := rfl
@[simp] theorem rsStep_replies (s : State) : (rsStep s).replies = s.replies := rfl

/-! `storeParity` -/

@[simp] theorem storeParity_phase (b k r : Nat) (s : State) : (storeParity b k r s).phase = s.phase := rfl
@[simp] theorem storeParity_err (b k r : Nat) (s : State) : (storeParity b k r s).err = s.err := rfl
@[simp] theorem storeParity_errcmd (b k r : Nat) (s : State) : (storeParity b k r s).errcmd = s.errcmd := rfl
@[simp] theorem storeParity_res (b k r : Nat) (s : State) : (storeParity b k r s).res = s.res := rfl
@[simp] theorem storeParity_ver (b k r : Nat) (s : State) : (storeParity b k r s).ver = s.ver := rfl
@[simp] theorem storeParity_ecl (b k r : Nat) (s : State) : (storeParity b k r s).ecl = s.ecl := rfl
@[simp] theorem storeParity_mode (b k r : Nat) (s : State) : (storeParity b k r s).mode = s.mode := rfl
@[simp] theorem storeParity_enc (b k r : Nat) (s : State) : (storeParity b k r s).enc = s.enc := rfl
@[simp] theorem storeParity_bitlen (b k r : Nat) (s : State) : (storeParity b k r s).bitlen = s.bitlen := rfl
@[simp] theorem storeParity_bitbuf (b k r : Nat) (s : State) : (storeParity b k r s).bitbuf = s.bitbuf := rfl
@[simp] theorem storeParity_decl (b k r : Nat) (s : State) : (storeParity b k r s).decl = s.decl := rfl
@[simp] theorem storeParity_chars (b k r : Nat) (s : State) : (storeParity b k r s).chars = s.chars := rfl
@[simp] theorem storeParity_tail (b k r : Nat) (s : State) : (storeParity b k r s).tail = s.tail := rfl
@[simp] theorem storeParity_rsK (b k r : Nat) (s : State) : (storeParity b k r s).rsK = s.rsK := rfl
@[simp] theorem storeParity_rsR (b k r : Nat) (s : State) : (storeParity b k r s).rsR = s.rsR := rfl
@[simp] theorem storeParity_rsFill (b k r : Nat) (s : State) : (storeParity b k r s).rsFill = s.rsFill := rfl
@[simp] theorem storeParity_rsHead (b k r : Nat) (s : State) : (storeParity b k r s).rsHead = s.rsHead := rfl
@[simp] theorem storeParity_rsbuf (b k r : Nat) (s : State) : (storeParity b k r s).rsbuf = s.rsbuf := rfl
@[simp] theorem storeParity_synR (b k r : Nat) (s : State) : (storeParity b k r s).synR = s.synR := rfl
@[simp] theorem storeParity_syn (b k r : Nat) (s : State) : (storeParity b k r s).syn = s.syn := rfl
@[simp] theorem storeParity_cw (b k r : Nat) (s : State) : (storeParity b k r s).cw = s.cw := rfl
@[simp] theorem storeParity_cwlen (b k r : Nat) (s : State) : (storeParity b k r s).cwlen = s.cwlen := rfl
@[simp] theorem storeParity_grid (b k r : Nat) (s : State) : (storeParity b k r s).grid = s.grid := rfl
@[simp] theorem storeParity_fnmask (b k r : Nat) (s : State) : (storeParity b k r s).fnmask = s.fnmask := rfl
@[simp] theorem storeParity_plRow (b k r : Nat) (s : State) : (storeParity b k r s).plRow = s.plRow := rfl
@[simp] theorem storeParity_plColpair (b k r : Nat) (s : State) : (storeParity b k r s).plColpair = s.plColpair := rfl
@[simp] theorem storeParity_plDir (b k r : Nat) (s : State) : (storeParity b k r s).plDir = s.plDir := rfl
@[simp] theorem storeParity_plSide (b k r : Nat) (s : State) : (storeParity b k r s).plSide = s.plSide := rfl
@[simp] theorem storeParity_plDone (b k r : Nat) (s : State) : (storeParity b k r s).plDone = s.plDone := rfl
@[simp] theorem storeParity_bitpos (b k r : Nat) (s : State) : (storeParity b k r s).bitpos = s.bitpos := rfl
@[simp] theorem storeParity_applied (b k r : Nat) (s : State) : (storeParity b k r s).applied = s.applied := rfl
@[simp] theorem storeParity_bestmask (b k r : Nat) (s : State) : (storeParity b k r s).bestmask = s.bestmask := rfl
@[simp] theorem storeParity_bestscore (b k r : Nat) (s : State) : (storeParity b k r s).bestscore = s.bestscore := rfl
@[simp] theorem storeParity_trial (b k r : Nat) (s : State) : (storeParity b k r s).trial = s.trial := rfl
@[simp] theorem storeParity_params (b k r : Nat) (s : State) : (storeParity b k r s).params = s.params := rfl
@[simp] theorem storeParity_pending (b k r : Nat) (s : State) : (storeParity b k r s).pending = s.pending := rfl
@[simp] theorem storeParity_replies (b k r : Nat) (s : State) : (storeParity b k r s).replies = s.replies := rfl

/-! `writeFuncs` -/

@[simp] theorem writeFuncs_phase (ws : List FuncWrite) (s : State) : (writeFuncs ws s).phase = s.phase := rfl
@[simp] theorem writeFuncs_err (ws : List FuncWrite) (s : State) : (writeFuncs ws s).err = s.err := rfl
@[simp] theorem writeFuncs_errcmd (ws : List FuncWrite) (s : State) : (writeFuncs ws s).errcmd = s.errcmd := rfl
@[simp] theorem writeFuncs_res (ws : List FuncWrite) (s : State) : (writeFuncs ws s).res = s.res := rfl
@[simp] theorem writeFuncs_ver (ws : List FuncWrite) (s : State) : (writeFuncs ws s).ver = s.ver := rfl
@[simp] theorem writeFuncs_ecl (ws : List FuncWrite) (s : State) : (writeFuncs ws s).ecl = s.ecl := rfl
@[simp] theorem writeFuncs_mode (ws : List FuncWrite) (s : State) : (writeFuncs ws s).mode = s.mode := rfl
@[simp] theorem writeFuncs_enc (ws : List FuncWrite) (s : State) : (writeFuncs ws s).enc = s.enc := rfl
@[simp] theorem writeFuncs_bitlen (ws : List FuncWrite) (s : State) : (writeFuncs ws s).bitlen = s.bitlen := rfl
@[simp] theorem writeFuncs_bitbuf (ws : List FuncWrite) (s : State) : (writeFuncs ws s).bitbuf = s.bitbuf := rfl
@[simp] theorem writeFuncs_decl (ws : List FuncWrite) (s : State) : (writeFuncs ws s).decl = s.decl := rfl
@[simp] theorem writeFuncs_chars (ws : List FuncWrite) (s : State) : (writeFuncs ws s).chars = s.chars := rfl
@[simp] theorem writeFuncs_tail (ws : List FuncWrite) (s : State) : (writeFuncs ws s).tail = s.tail := rfl
@[simp] theorem writeFuncs_rsK (ws : List FuncWrite) (s : State) : (writeFuncs ws s).rsK = s.rsK := rfl
@[simp] theorem writeFuncs_rsR (ws : List FuncWrite) (s : State) : (writeFuncs ws s).rsR = s.rsR := rfl
@[simp] theorem writeFuncs_rsFill (ws : List FuncWrite) (s : State) : (writeFuncs ws s).rsFill = s.rsFill := rfl
@[simp] theorem writeFuncs_rsHead (ws : List FuncWrite) (s : State) : (writeFuncs ws s).rsHead = s.rsHead := rfl
@[simp] theorem writeFuncs_rsbuf (ws : List FuncWrite) (s : State) : (writeFuncs ws s).rsbuf = s.rsbuf := rfl
@[simp] theorem writeFuncs_synR (ws : List FuncWrite) (s : State) : (writeFuncs ws s).synR = s.synR := rfl
@[simp] theorem writeFuncs_syn (ws : List FuncWrite) (s : State) : (writeFuncs ws s).syn = s.syn := rfl
@[simp] theorem writeFuncs_par (ws : List FuncWrite) (s : State) : (writeFuncs ws s).par = s.par := rfl
@[simp] theorem writeFuncs_cw (ws : List FuncWrite) (s : State) : (writeFuncs ws s).cw = s.cw := rfl
@[simp] theorem writeFuncs_cwlen (ws : List FuncWrite) (s : State) : (writeFuncs ws s).cwlen = s.cwlen := rfl
@[simp] theorem writeFuncs_grid (ws : List FuncWrite) (s : State) : (writeFuncs ws s).grid = setFuncs ws s.grid := rfl
@[simp] theorem writeFuncs_fnmask (ws : List FuncWrite) (s : State) : (writeFuncs ws s).fnmask = s.fnmask := rfl
@[simp] theorem writeFuncs_plRow (ws : List FuncWrite) (s : State) : (writeFuncs ws s).plRow = s.plRow := rfl
@[simp] theorem writeFuncs_plColpair (ws : List FuncWrite) (s : State) : (writeFuncs ws s).plColpair = s.plColpair := rfl
@[simp] theorem writeFuncs_plDir (ws : List FuncWrite) (s : State) : (writeFuncs ws s).plDir = s.plDir := rfl
@[simp] theorem writeFuncs_plSide (ws : List FuncWrite) (s : State) : (writeFuncs ws s).plSide = s.plSide := rfl
@[simp] theorem writeFuncs_plDone (ws : List FuncWrite) (s : State) : (writeFuncs ws s).plDone = s.plDone := rfl
@[simp] theorem writeFuncs_bitpos (ws : List FuncWrite) (s : State) : (writeFuncs ws s).bitpos = s.bitpos := rfl
@[simp] theorem writeFuncs_applied (ws : List FuncWrite) (s : State) : (writeFuncs ws s).applied = s.applied := rfl
@[simp] theorem writeFuncs_bestmask (ws : List FuncWrite) (s : State) : (writeFuncs ws s).bestmask = s.bestmask := rfl
@[simp] theorem writeFuncs_bestscore (ws : List FuncWrite) (s : State) : (writeFuncs ws s).bestscore = s.bestscore := rfl
@[simp] theorem writeFuncs_trial (ws : List FuncWrite) (s : State) : (writeFuncs ws s).trial = s.trial := rfl
@[simp] theorem writeFuncs_params (ws : List FuncWrite) (s : State) : (writeFuncs ws s).params = s.params := rfl
@[simp] theorem writeFuncs_pending (ws : List FuncWrite) (s : State) : (writeFuncs ws s).pending = s.pending := rfl
@[simp] theorem writeFuncs_replies (ws : List FuncWrite) (s : State) : (writeFuncs ws s).replies = s.replies := rfl

/-! `setFn` -/

@[simp] theorem setFn_phase (b : BitVec 4) (s : State) : (setFn b s).phase = s.phase := rfl
@[simp] theorem setFn_err (b : BitVec 4) (s : State) : (setFn b s).err = s.err := rfl
@[simp] theorem setFn_errcmd (b : BitVec 4) (s : State) : (setFn b s).errcmd = s.errcmd := rfl
@[simp] theorem setFn_res (b : BitVec 4) (s : State) : (setFn b s).res = s.res := rfl
@[simp] theorem setFn_ver (b : BitVec 4) (s : State) : (setFn b s).ver = s.ver := rfl
@[simp] theorem setFn_ecl (b : BitVec 4) (s : State) : (setFn b s).ecl = s.ecl := rfl
@[simp] theorem setFn_mode (b : BitVec 4) (s : State) : (setFn b s).mode = s.mode := rfl
@[simp] theorem setFn_enc (b : BitVec 4) (s : State) : (setFn b s).enc = s.enc := rfl
@[simp] theorem setFn_bitlen (b : BitVec 4) (s : State) : (setFn b s).bitlen = s.bitlen := rfl
@[simp] theorem setFn_bitbuf (b : BitVec 4) (s : State) : (setFn b s).bitbuf = s.bitbuf := rfl
@[simp] theorem setFn_decl (b : BitVec 4) (s : State) : (setFn b s).decl = s.decl := rfl
@[simp] theorem setFn_chars (b : BitVec 4) (s : State) : (setFn b s).chars = s.chars := rfl
@[simp] theorem setFn_tail (b : BitVec 4) (s : State) : (setFn b s).tail = s.tail := rfl
@[simp] theorem setFn_rsK (b : BitVec 4) (s : State) : (setFn b s).rsK = s.rsK := rfl
@[simp] theorem setFn_rsR (b : BitVec 4) (s : State) : (setFn b s).rsR = s.rsR := rfl
@[simp] theorem setFn_rsFill (b : BitVec 4) (s : State) : (setFn b s).rsFill = s.rsFill := rfl
@[simp] theorem setFn_rsHead (b : BitVec 4) (s : State) : (setFn b s).rsHead = s.rsHead := rfl
@[simp] theorem setFn_rsbuf (b : BitVec 4) (s : State) : (setFn b s).rsbuf = s.rsbuf := rfl
@[simp] theorem setFn_synR (b : BitVec 4) (s : State) : (setFn b s).synR = s.synR := rfl
@[simp] theorem setFn_syn (b : BitVec 4) (s : State) : (setFn b s).syn = s.syn := rfl
@[simp] theorem setFn_par (b : BitVec 4) (s : State) : (setFn b s).par = s.par := rfl
@[simp] theorem setFn_cw (b : BitVec 4) (s : State) : (setFn b s).cw = s.cw := rfl
@[simp] theorem setFn_cwlen (b : BitVec 4) (s : State) : (setFn b s).cwlen = s.cwlen := rfl
@[simp] theorem setFn_grid (b : BitVec 4) (s : State) : (setFn b s).grid = s.grid := rfl
@[simp] theorem setFn_fnmask (b : BitVec 4) (s : State) : (setFn b s).fnmask = s.fnmask ||| b := rfl
@[simp] theorem setFn_plRow (b : BitVec 4) (s : State) : (setFn b s).plRow = s.plRow := rfl
@[simp] theorem setFn_plColpair (b : BitVec 4) (s : State) : (setFn b s).plColpair = s.plColpair := rfl
@[simp] theorem setFn_plDir (b : BitVec 4) (s : State) : (setFn b s).plDir = s.plDir := rfl
@[simp] theorem setFn_plSide (b : BitVec 4) (s : State) : (setFn b s).plSide = s.plSide := rfl
@[simp] theorem setFn_plDone (b : BitVec 4) (s : State) : (setFn b s).plDone = s.plDone := rfl
@[simp] theorem setFn_bitpos (b : BitVec 4) (s : State) : (setFn b s).bitpos = s.bitpos := rfl
@[simp] theorem setFn_applied (b : BitVec 4) (s : State) : (setFn b s).applied = s.applied := rfl
@[simp] theorem setFn_bestmask (b : BitVec 4) (s : State) : (setFn b s).bestmask = s.bestmask := rfl
@[simp] theorem setFn_bestscore (b : BitVec 4) (s : State) : (setFn b s).bestscore = s.bestscore := rfl
@[simp] theorem setFn_trial (b : BitVec 4) (s : State) : (setFn b s).trial = s.trial := rfl
@[simp] theorem setFn_params (b : BitVec 4) (s : State) : (setFn b s).params = s.params := rfl
@[simp] theorem setFn_pending (b : BitVec 4) (s : State) : (setFn b s).pending = s.pending := rfl
@[simp] theorem setFn_replies (b : BitVec 4) (s : State) : (setFn b s).replies = s.replies := rfl

/-! The host's own side survives a reset. -/

@[simp] theorem resetState_params (s : State) : (resetState s).params = s.params := rfl
@[simp] theorem resetState_pending (s : State) : (resetState s).pending = s.pending := rfl
@[simp] theorem resetState_replies (s : State) : (resetState s).replies = s.replies := rfl
@[simp] theorem resetState_phase (s : State) : (resetState s).phase = State.reset.phase := rfl
@[simp] theorem resetState_err (s : State) : (resetState s).err = State.reset.err := rfl
@[simp] theorem resetState_grid (s : State) : (resetState s).grid = State.reset.grid := rfl
@[simp] theorem resetState_applied (s : State) : (resetState s).applied = State.reset.applied := rfl

end Sys2Proof.Machine
end

