-- ==== Sys2Proof/Laws/Memory.lean ====
section
/-! SUPPORT. The element-indexed memories: a read after a write, what a write leaves alone, and that a memory keeps its
form (the elements written so far, in index order, with no gap; notes/assumptions/4.md). -/
namespace Sys2Proof.Machine

variable {α : Type}

/-! One write. -/

theorem length_writeAt (free : Nat → α) (l : List α) (i : Nat) (v : α) :
    (writeAt free l i v).length = max l.length (i + 1) := by
  unfold writeAt
  split
  · rw [List.length_set]; omega
  · simp only [List.length_append, List.length_map, List.length_range', List.length_cons, List.length_nil]; omega

/-- A write at the end appends: no gap, nothing invented. -/
theorem writeAt_length (free : Nat → α) (l : List α) (v : α) : writeAt free l l.length v = l ++ [v] := by
  simp [writeAt]

theorem writeAt_of_lt (free : Nat → α) (l : List α) {i : Nat} (v : α) (h : i < l.length) :
    writeAt free l i v = l.set i v := by
  simp [writeAt, h]

/-- A read after a write. -/
theorem readAt_writeAt (free : Nat → α) (l : List α) (i j : Nat) (v : α) :
    readAt free (writeAt free l i v) j = if j = i then v else readAt free l j := by
  unfold readAt writeAt
  by_cases hi : i < l.length
  · by_cases hj : j = i
    · subst hj; simp [hi]
    · simp [hi, hj, List.getElem?_set_ne (Ne.symm hj)]
  · rw [if_neg hi]
    rcases Nat.lt_or_ge j l.length with h1 | h1
    · rw [if_neg (by omega), List.append_assoc, List.getElem?_append_left h1]
    · rw [List.append_assoc, List.getElem?_append_right h1]
      rcases Nat.lt_trichotomy j i with h2 | h2 | h2
      · rw [if_neg (by omega), List.getElem?_append_left (by simp; omega), List.getElem?_map,
          List.getElem?_range' (by omega), List.getElem?_eq_none h1]
        simp; congr 1; omega
      · subst h2
        rw [if_pos rfl, List.getElem?_append_right (by simp)]
        simp
      · rw [if_neg (by omega), List.getElem?_eq_none (by simp; omega), List.getElem?_eq_none h1]

/-! Several writes from an index on. -/

theorem readAt_writeFrom (free : Nat → α) (vs : List α) (l : List α) (i j : Nat) :
    readAt free (writeFrom free l i vs) j =
      if i ≤ j ∧ j < i + vs.length then readAt free vs (j - i) else readAt free l j := by
  induction vs generalizing l i with
  | nil => rw [if_neg (by rw [List.length_nil]; omega), writeFrom]
  | cons v vs ih =>
    rw [writeFrom, ih, readAt_writeAt]
    rcases Nat.lt_trichotomy j i with h | h | h
    · rw [if_neg (by omega), if_neg (by omega), if_neg (by simp only [List.length_cons]; omega)]
    · subst h
      rw [if_neg (by omega), if_pos rfl, if_pos (by simp only [List.length_cons]; omega)]
      simp [readAt]
    · by_cases hlt : j < i + (vs.length + 1)
      · rw [if_pos (by omega), if_pos (by simp only [List.length_cons]; omega)]
        have : j - i = (j - (i + 1)) + 1 := by omega
        rw [this]
        simp only [readAt, List.getElem?_cons_succ]
        rw [List.getElem?_eq_getElem (by omega)]
        rfl
      · rw [if_neg (by omega), if_neg (by omega), if_neg (by simp only [List.length_cons]; omega)]

theorem length_writeFrom (free : Nat → α) (vs : List α) (l : List α) (i : Nat) :
    (writeFrom free l i vs).length = if vs = [] then l.length else max l.length (i + vs.length) := by
  induction vs generalizing l i with
  | nil => rfl
  | cons v vs ih =>
    rw [writeFrom, ih, length_writeAt]
    cases vs with
    | nil => simp
    | cons w ws => simp only [reduceCtorEq, if_false, List.length_cons]; omega

/-- Writes at the end append. -/
theorem writeFrom_length (free : Nat → α) (vs : List α) (l : List α) : writeFrom free l l.length vs = l ++ vs := by
  induction vs generalizing l with
  | nil => simp [writeFrom]
  | cons v vs ih =>
    have h := ih (l ++ [v])
    rw [List.length_append, List.length_singleton] at h
    rw [writeFrom, writeAt_length, h, List.append_assoc]
    rfl

theorem writeFrom_append (free : Nat → α) (us vs l : List α) (i : Nat) :
    writeFrom free l i (us ++ vs) = writeFrom free (writeFrom free l i us) (i + us.length) vs := by
  induction us generalizing l i with
  | nil => rfl
  | cons u us ih =>
    rw [List.cons_append, writeFrom, ih, writeFrom, List.length_cons]
    congr 1
    omega

/-! A loop that rewrites elements `head .. head + n - 1` one by one, each from its own old value. -/

/-- The elements a rewriting loop leaves. -/
theorem readAt_rewrite (free : Nat → α) (f : Nat → α → α) (head n : Nat) (l : List α) (j : Nat) :
    readAt free ((List.range n).foldl (fun l k => writeAt free l (head + k) (f k (readAt free l (head + k)))) l) j =
      if head ≤ j ∧ j < head + n then f (j - head) (readAt free l j) else readAt free l j := by
  induction n with
  | zero => rw [if_neg (by omega), List.range_zero, List.foldl_nil]
  | succ n ih =>
    rw [List.range_succ, List.foldl_append, List.foldl_cons, List.foldl_nil, readAt_writeAt]
    by_cases h : j = head + n
    · subst h
      rw [if_pos rfl, ih, if_neg (by omega), if_pos (by omega), Nat.add_sub_cancel_left]
    · rw [if_neg h, ih]
      by_cases h2 : head ≤ j ∧ j < head + n
      · rw [if_pos h2, if_pos (by omega)]
      · rw [if_neg h2, if_neg (by omega)]

theorem length_rewrite (free : Nat → α) (f : Nat → α → α) (head n : Nat) (l : List α) (h : head + n ≤ l.length) :
    ((List.range n).foldl (fun l k => writeAt free l (head + k) (f k (readAt free l (head + k)))) l).length
      = l.length := by
  induction n with
  | zero => rfl
  | succ n ih =>
    rw [List.range_succ, List.foldl_append, List.foldl_cons, List.foldl_nil, length_writeAt, ih (by omega)]
    omega

/-! Two dimensions. -/

theorem readAt2_writeAt2 (free : Nat → Nat → α) (g : List (List α)) (r c r' c' : Nat) (v : α) :
    readAt2 free (writeAt2 free g r c v) r' c' = if r' = r ∧ c' = c then v else readAt2 free g r' c' := by
  have row : ∀ (g : List (List α)) k, g[k]?.getD [] = readAt (fun _ => []) g k := fun _ _ => rfl
  unfold readAt2 writeAt2
  rw [row, readAt_writeAt]
  by_cases hr : r' = r
  · subst hr
    rw [if_pos rfl, readAt_writeAt]
    by_cases hc : c' = c <;> simp [hc]
  · rw [if_neg hr, if_neg (by simp [hr]), row]

/-- A rectangular memory keeps its shape under a write inside it. -/
theorem writeAt2_shape (free : Nat → Nat → α) {n m : Nat} {g : List (List α)} {r c : Nat} (v : α)
    (hg : g.length = n ∧ ∀ row ∈ g, row.length = m) (hr : r < n) (hc : c < m) :
    (writeAt2 free g r c v).length = n ∧ ∀ row ∈ writeAt2 free g r c v, row.length = m := by
  obtain ⟨hl, hrow⟩ := hg
  have hr' : r < g.length := by omega
  unfold writeAt2
  rw [writeAt_of_lt _ _ _ hr']
  refine ⟨by rw [List.length_set, hl], fun row hmem => ?_⟩
  rcases List.mem_or_eq_of_mem_set hmem with h | h
  · exact hrow row h
  · have hc' : (g[r]?.getD []).length = m := by
      rw [List.getElem?_eq_getElem hr', Option.getD_some]; exact hrow _ (List.getElem_mem hr')
    rw [h, length_writeAt, hc']; omega

/-! The machine's memories. -/

theorem readAt_nil (free : Nat → α) (i : Nat) : readAt free [] i = free i := rfl

theorem readAt_replicate (free : Nat → α) (n : Nat) (v : α) (i : Nat) :
    readAt free (List.replicate n v) i = if i < n then v else free i := by
  unfold readAt
  rw [List.getElem?_replicate]
  split <;> rfl

theorem gridAt_gridSet (g : List (List Module)) (r c r' c' : Nat) (m : Module) :
    gridAt (gridSet g r c m) r' c' = if r' = r ∧ c' = c then m else gridAt g r' c' :=
  readAt2_writeAt2 ..

/-- What `pushBits` puts into the stream, and that it leaves every other bit alone (R193). -/
theorem bitAt_pushBits (bs : List Bool) (s : State) (k : Nat) :
    (pushBits bs s).bitAt k =
      if s.bitlen.toNat ≤ k ∧ k < s.bitlen.toNat + bs.length then readAt Config.unwrittenBit bs (k - s.bitlen.toNat)
      else s.bitAt k :=
  readAt_writeFrom ..

theorem length_bitsMSB (v n : Nat) : (bitsMSB v n).length = n := by
  simp [bitsMSB]

theorem readAt_bitsMSB (v n : Nat) {k : Nat} (h : k < n) :
    readAt Config.unwrittenBit (bitsMSB v n) k = v.testBit (n - 1 - k) := by
  simp [readAt, bitsMSB, h]

/-- One division step, element by element (R231). -/
theorem rsAt_rsStep (s : State) (i : Nat) :
    (rsStep s).rsAt i =
      if s.rsAt s.rsHead.toNat ≠ 0 ∧ s.rsHead.toNat ≤ i ∧ i < s.rsHead.toNat + (s.rsR.toNat + 1) then
        s.rsAt i ^^^ gfMul (gfGenOf s.rsR.toNat (i - s.rsHead.toNat)) (s.rsAt s.rsHead.toNat)
      else s.rsAt i := by
  by_cases h : s.rsAt s.rsHead.toNat = 0
  · have e : (rsStep s).rsbuf = s.rsbuf := if_neg (not_not_intro h)
    rw [if_neg (fun hh => hh.1 h), State.rsAt, e, State.rsAt]
  · have e : (rsStep s).rsbuf = rsXorGenerator s.rsHead.toNat s.rsR.toNat (s.rsAt s.rsHead.toNat) s.rsbuf := if_pos h
    have hw := readAt_rewrite Config.unwrittenRsbuf
      (fun k x => x ^^^ gfMul (gfGenOf s.rsR.toNat k) (s.rsAt s.rsHead.toNat)) s.rsHead.toNat (s.rsR.toNat + 1) s.rsbuf i
    rw [State.rsAt, e]
    refine Eq.trans hw ?_
    simp only [ne_eq, h, not_false_eq_true, true_and]
    rfl

/-- One Horner step, accumulator by accumulator (R242). -/
theorem readAt_synHorner (n : Nat) (b : Byte) (syn : List Byte) (j : Nat) :
    readAt Config.unwrittenSyn (synHorner n b syn) j =
      if j < n then gfMul (readAt Config.unwrittenSyn syn j) (gfExpOf j) ^^^ b else readAt Config.unwrittenSyn syn j := by
  have hw := readAt_rewrite Config.unwrittenSyn (fun k x => gfMul x (gfExpOf k) ^^^ b) 0 n syn j
  simp only [Nat.zero_add, Nat.zero_le, true_and, Nat.sub_zero] at hw
  exact hw

end Sys2Proof.Machine
end

