-- ==== Sys2Proof/Laws/Grid.lean ====
section
/-! SUPPORT. The grid under lists of function-module writes and under a mask: what a module reads afterwards, and that a
`SIZE` by `SIZE` grid stays one (spec/44_matrix_builder.md R270, spec/46_mask_evaluator.md R321). -/
namespace Sys2Proof.Machine

/-- What the last of some writes to `(r, c)` puts there. -/
def lastWrite (ws : List FuncWrite) (r c : Nat) : Option Bool :=
  ws.foldl (fun acc w => if r = w.1 ∧ c = w.2.1 then some w.2.2 else acc) none

/-! Function-module writes. -/

theorem setFuncs_nil (g : List (List Module)) : setFuncs [] g = g := rfl

theorem setFuncs_cons (w : FuncWrite) (ws : List FuncWrite) (g : List (List Module)) :
    setFuncs (w :: ws) g = setFuncs ws (setFunc g w) := rfl

theorem setFuncs_append (us vs : List FuncWrite) (g : List (List Module)) :
    setFuncs (us ++ vs) g = setFuncs vs (setFuncs us g) := List.foldl_append

theorem gridAt_setFunc (g : List (List Module)) (w : FuncWrite) (r c : Nat) :
    gridAt (setFunc g w) r c = if r = w.1 ∧ c = w.2.1 then .function w.2.2 else gridAt g r c :=
  gridAt_gridSet ..

theorem lastWrite_append (us vs : List FuncWrite) (r c : Nat) :
    lastWrite (us ++ vs) r c = (lastWrite vs r c).or (lastWrite us r c) := by
  have key : ∀ (vs : List FuncWrite) (o : Option Bool),
      vs.foldl (fun acc w => if r = w.1 ∧ c = w.2.1 then some w.2.2 else acc) o = (lastWrite vs r c).or o := by
    intro vs
    unfold lastWrite
    induction vs with
    | nil => intro o; simp
    | cons v vs ih =>
      intro o
      rw [List.foldl_cons, List.foldl_cons]
      by_cases h : r = v.1 ∧ c = v.2.1
      · rw [if_pos h, if_pos h, ih (some v.2.2), Option.or_assoc, Option.some_or]
      · rw [if_neg h, if_neg h, ih]
  rw [lastWrite, List.foldl_append, key]
  rfl

/-- A read after several function-module writes: the last write there, else what was there. -/
theorem gridAt_setFuncs (ws : List FuncWrite) (g : List (List Module)) (r c : Nat) :
    gridAt (setFuncs ws g) r c = match lastWrite ws r c with | some d => .function d | none => gridAt g r c := by
  induction ws generalizing g with
  | nil => rfl
  | cons w ws ih =>
    rw [setFuncs_cons, ih, show w :: ws = [w] ++ ws from rfl, lastWrite_append]
    cases lastWrite ws r c with
    | some d => rfl
    | none =>
      rw [gridAt_setFunc, Option.none_or]
      simp only [lastWrite, List.foldl_cons, List.foldl_nil]
      by_cases h : r = w.1 ∧ c = w.2.1 <;> simp [h]

/-- No write goes to `(r, c)`. -/
theorem lastWrite_eq_none {ws : List FuncWrite} {r c : Nat} (h : ∀ w ∈ ws, ¬(r = w.1 ∧ c = w.2.1)) :
    lastWrite ws r c = none := by
  induction ws with
  | nil => rfl
  | cons w ws ih =>
    rw [show w :: ws = [w] ++ ws from rfl, lastWrite_append, ih fun x hx => h x (List.mem_cons_of_mem _ hx)]
    simp only [lastWrite, List.foldl_cons, List.foldl_nil, if_neg (h w List.mem_cons_self), Option.none_or]

/-- Every write to `(r, c)` writes `d`, and there is one. -/
theorem lastWrite_eq_some {ws : List FuncWrite} {r c : Nat} {d : Bool} (hex : ∃ w ∈ ws, r = w.1 ∧ c = w.2.1)
    (h : ∀ w ∈ ws, r = w.1 ∧ c = w.2.1 → w.2.2 = d) : lastWrite ws r c = some d := by
  induction ws with
  | nil => obtain ⟨w, hw, _⟩ := hex; cases hw
  | cons w ws ih =>
    rw [show w :: ws = [w] ++ ws from rfl, lastWrite_append]
    by_cases he : ∃ x ∈ ws, r = x.1 ∧ c = x.2.1
    · rw [ih he fun x hx => h x (List.mem_cons_of_mem _ hx)]; rfl
    · rw [lastWrite_eq_none fun x hx hh => he ⟨x, hx, hh⟩]
      obtain ⟨x, hx, hh⟩ := hex
      rcases List.mem_cons.1 hx with rfl | hx
      · simp [lastWrite, hh, ← h x List.mem_cons_self hh]
      · exact absurd ⟨x, hx, hh⟩ he

/-- Outside the writes nothing changes. -/
theorem gridAt_setFuncs_of_not_mem {ws : List FuncWrite} {r c : Nat} (g : List (List Module))
    (h : ∀ w ∈ ws, ¬(r = w.1 ∧ c = w.2.1)) : gridAt (setFuncs ws g) r c = gridAt g r c := by
  rw [gridAt_setFuncs, lastWrite_eq_none h]

theorem mem_areaWrites {r0 c0 n m : Nat} {dark : Nat → Nat → Bool} {w : FuncWrite} :
    w ∈ areaWrites r0 c0 n m dark ↔ ∃ dr < n, ∃ dc < m, w = (r0 + dr, c0 + dc, dark dr dc) := by
  simp only [areaWrites, List.mem_flatMap, List.mem_map, List.mem_range]
  constructor
  · rintro ⟨dr, hr, dc, hc, rfl⟩; exact ⟨dr, hr, dc, hc, rfl⟩
  · rintro ⟨dr, hr, dc, hc, rfl⟩; exact ⟨dr, hr, dc, hc, rfl⟩

/-- An area holds its pattern, and nothing outside it is written. -/
theorem lastWrite_areaWrites (r0 c0 n m : Nat) (dark : Nat → Nat → Bool) (r c : Nat) :
    lastWrite (areaWrites r0 c0 n m dark) r c =
      if r0 ≤ r ∧ r < r0 + n ∧ c0 ≤ c ∧ c < c0 + m then some (dark (r - r0) (c - c0)) else none := by
  split
  · next h =>
    refine lastWrite_eq_some ⟨_, mem_areaWrites.2 ⟨r - r0, by omega, c - c0, by omega, rfl⟩, by simp only; omega⟩ ?_
    intro w hw hh
    obtain ⟨dr, _, dc, _, rfl⟩ := mem_areaWrites.1 hw
    rw [hh.1, hh.2, Nat.add_sub_cancel_left, Nat.add_sub_cancel_left]
  · next h =>
    refine lastWrite_eq_none fun w hw hh => h ?_
    obtain ⟨dr, _, dc, _, rfl⟩ := mem_areaWrites.1 hw
    simp only at hh
    omega

/-! Shape. -/

theorem square_replicate (n : Nat) : Square n (List.replicate n (List.replicate n .unset)) := by
  refine ⟨List.length_replicate, fun row h => ?_⟩
  rw [List.eq_of_mem_replicate h, List.length_replicate]

theorem square_gridSet {n r c : Nat} {g : List (List Module)} (m : Module) (h : Square n g) (hr : r < n) (hc : c < n) :
    Square n (gridSet g r c m) := writeAt2_shape _ _ h hr hc

theorem square_setFuncs {n : Nat} {ws : List FuncWrite} {g : List (List Module)} (h : Square n g)
    (hw : ∀ w ∈ ws, w.1 < n ∧ w.2.1 < n) : Square n (setFuncs ws g) := by
  induction ws generalizing g with
  | nil => exact h
  | cons w ws ih =>
    obtain ⟨h1, h2⟩ := hw w List.mem_cons_self
    exact ih (square_gridSet _ h h1 h2) fun x hx => hw x (List.mem_cons_of_mem _ hx)

/-- Two square grids that read alike inside are equal. -/
theorem square_ext {n : Nat} {g g' : List (List Module)} (h : Square n g) (h' : Square n g')
    (he : ∀ r < n, ∀ c < n, gridAt g r c = gridAt g' r c) : g = g' := by
  refine List.ext_getElem (h.1.trans h'.1.symm) fun r hr hr' => ?_
  have hl := h.2 _ (List.getElem_mem hr)
  have hl' := h'.2 _ (List.getElem_mem hr')
  refine List.ext_getElem (hl.trans hl'.symm) fun c hc hc' => ?_
  have := he r (h.1 ▸ hr) c (hl ▸ hc)
  simpa [gridAt, readAt2, readAt, hr, hr', hc, hc'] using this

/-! A mask. -/

/-- A module of a square grid under a mask (R321). -/
theorem gridAt_flipGrid {n m : Nat} {g : List (List Module)} (h : Square n g) (r c : Nat) :
    gridAt (flipGrid n m g) r c = if r < n ∧ c < n then flipModule (maskBit m r c) (gridAt g r c) else gridAt g r c := by
  obtain ⟨hl, hrow⟩ := h
  unfold gridAt readAt2 readAt flipGrid
  rcases Nat.lt_or_ge r n with hr | hr
  · have hr' : r < g.length := by omega
    have hc' : g[r].length = n := hrow _ (List.getElem_mem hr')
    rcases Nat.lt_or_ge c n with hc | hc
    · have : c < g[r].length := by omega
      simp [hr, hr', hc, this, flipRow]
    · have : g[r].length ≤ c := by omega
      simp [hr, hr', this, flipRow, Nat.not_lt.2 hc]
  · have : g.length ≤ r := by omega
    simp [Nat.not_lt.2 hr, this]

theorem square_flipGrid {n m : Nat} {g : List (List Module)} (h : Square n g) : Square n (flipGrid n m g) := by
  obtain ⟨hl, hrow⟩ := h
  refine ⟨by simp [flipGrid, hl], fun row hmem => ?_⟩
  simp only [flipGrid, List.mem_map, Prod.exists] at hmem
  obtain ⟨x, r, hx, rfl⟩ := hmem
  have hx' : x ∈ g := by
    rw [List.mem_zipIdx_iff_getElem?] at hx
    exact List.mem_of_getElem? hx
  split
  · simp [flipRow, hrow x hx']
  · exact hrow x hx'

end Sys2Proof.Machine
end

