-- ==== Sys2Proof/Laws/Ops.lean ====
section
/-! SUPPORT. What the shared operations can do, each said once: checks, the frame of a command, `append`, the divider and
the placer's loops. Later proofs cite these and unfold nothing. -/
namespace Sys2Proof.Machine

variable {α β ε : Type}

/-! Checks and sequencing. -/

theorem bind_eq_ok {x : Except ε α} {f : α → Except ε β} {b : β} :
    (x >>= f) = .ok b ↔ ∃ a, x = .ok a ∧ f a = .ok b := by
  cases x <;> simp [bind, Except.bind]

theorem bind_eq_error {x : Except ε α} {f : α → Except ε β} {e : ε} :
    (x >>= f) = .error e ↔ x = .error e ∨ ∃ a, x = .ok a ∧ f a = .error e := by
  cases x <;> simp [bind, Except.bind]

@[simp] theorem ok_bind (a : α) (f : α → Except ε β) : ((Except.ok a : Except ε α) >>= f) = f a := rfl

@[simp] theorem error_bind (e : ε) (f : α → Except ε β) : ((Except.error e : Except ε α) >>= f) = .error e := rfl

theorem require_true {c : Prop} [Decidable c] (h : c) (e : ErrCode) : require c e = .ok () := if_pos h

theorem require_false {c : Prop} [Decidable c] (h : ¬c) (e : ErrCode) : require c e = .error e := if_neg h

theorem require_bind {c : Prop} [Decidable c] (e : ErrCode) (f : Unit → Except ErrCode β) :
    (require c e >>= f) = if c then f () else .error e := by
  by_cases h : c <;> simp [require, h]

@[simp] theorem require_eq_ok {c : Prop} [Decidable c] {e : ErrCode} {u : Unit} : require c e = .ok u ↔ c := by
  by_cases h : c <;> simp [require, h]

@[simp] theorem require_eq_error {c : Prop} [Decidable c] {e e' : ErrCode} : require c e = .error e' ↔ ¬c ∧ e = e' := by
  by_cases h : c <;> simp [require, h]

/-! The frame of a command. -/

theorem settle_ok (w : Word) (s t : State) : settle w s (.ok t) = .next t := rfl

theorem settle_error (w : Word) (s : State) (e : ErrCode) : settle w s (.error e) = .next (raise e w s) := rfl

theorem command_of_error {i : Instr} {body : State → Except ErrCode State} {s : State} (h : s.phase = .error) :
    command i body s = .next s := if_pos h

theorem command_of_illegal {i : Instr} {body : State → Except ErrCode State} {s : State} (h : s.phase ≠ .error)
    (hl : legalIn i s.phase = false) : command i body s = .next (raise .sequenceError (encode i) s) := by
  rw [command, if_neg h, if_neg (by simp [hl])]; rfl

theorem command_of_legal {i : Instr} {body : State → Except ErrCode State} {s : State} (h : s.phase ≠ .error)
    (hl : legalIn i s.phase = true) : command i body s = settle (encode i) s (body s) := by
  rw [command, if_neg h, if_pos hl]

/-- The only command legal in `ERROR` is `SRESET` (R47). -/
theorem legalIn_error {i : Instr} (h : legalIn i .error = true) : i = .sreset := by
  cases i <;> first | rfl | simp [legalIn, Phase.isAny, Phase.within, Phase.code] at h

/-- Everything a command can do: nothing in `ERROR`, raise the error of its phase or of its body, or what its body
does. -/
theorem command_cases {i : Instr} {body : State → Except ErrCode State} {s t : State}
    (h : command i body s = .next t) :
    (s.phase = .error ∧ t = s) ∨
    (s.phase ≠ .error ∧ legalIn i s.phase = false ∧ t = raise .sequenceError (encode i) s) ∨
    (s.phase ≠ .error ∧ legalIn i s.phase = true ∧
      ((∃ e, body s = .error e ∧ t = raise e (encode i) s) ∨ body s = .ok t)) := by
  by_cases he : s.phase = .error
  · rw [command_of_error he] at h; cases h; exact .inl ⟨he, rfl⟩
  · cases hl : legalIn i s.phase with
    | false => rw [command_of_illegal he hl] at h; cases h; exact .inr (.inl ⟨he, rfl, rfl⟩)
    | true =>
      rw [command_of_legal he hl] at h
      refine .inr (.inr ⟨he, rfl, ?_⟩)
      cases hb : body s with
      | ok u => rw [hb] at h; cases h; exact .inr rfl
      | error e => rw [hb] at h; cases h; exact .inl ⟨e, rfl, rfl⟩

theorem command_next (i : Instr) (body : State → Except ErrCode State) (s : State) :
    ∃ t, command i body s = .next t := by
  by_cases he : s.phase = .error
  · exact ⟨_, command_of_error he⟩
  · cases hl : legalIn i s.phase with
    | false => exact ⟨_, command_of_illegal he hl⟩
    | true => rw [command_of_legal he hl]; cases body s <;> exact ⟨_, rfl⟩

/-! The packer. -/

/-- Everything `append` can do (R193). -/
theorem appendField_cases {v n : Nat} {s : State} {x : Except ErrCode State} (h : appendField v n s = x) :
    (s.bitlen.toNat + n ≤ s.capbits ∧ x = .ok (pushBits (bitsMSB v n) s)) ∨
    (¬s.bitlen.toNat + n ≤ s.capbits ∧ x = .error .capacityExceeded) := by
  subst h
  by_cases hc : s.bitlen.toNat + n ≤ s.capbits <;> simp [appendField, hc, require]

@[simp] theorem capbits_pushBits (bs : List Bool) (s : State) : (pushBits bs s).capbits = s.capbits := rfl

@[simp] theorem capbits_countChars (n : Nat) (s : State) : (countChars n s).capbits = s.capbits := rfl

@[simp] theorem capbits_setTail (s : State) : (setTail s).capbits = s.capbits := rfl

/-- `append` after `append` is one `append` of both, as far as the stream goes. -/
theorem pushBits_pushBits (us vs : List Bool) (s : State) (h : s.bitlen.toNat + us.length < 2 ^ 15) :
    pushBits vs (pushBits us s) = pushBits (us ++ vs) s := by
  have e : (BitVec.ofNat 15 (s.bitlen.toNat + us.length)).toNat = s.bitlen.toNat + us.length := by
    rw [BitVec.toNat_ofNat, Nat.mod_eq_of_lt h]
  unfold pushBits
  simp only [e, writeFrom_append, List.length_append, Nat.add_assoc]

/-! The placer. -/

/-- `pl_next()` moves the position and nothing else (R301). -/
theorem plNext_frame (s : State) :
    plNext s = { s with
      plRow := (plNext s).plRow, plColpair := (plNext s).plColpair, plDir := (plNext s).plDir,
      plSide := (plNext s).plSide, plDone := (plNext s).plDone } := by
  unfold plNext
  split
  · rfl
  split
  · rfl
  split
  · rfl
  split
  · rfl
  split <;> rfl

@[simp] theorem plNext_grid (s : State) : (plNext s).grid = s.grid := by rw [plNext_frame]
@[simp] theorem plNext_phase (s : State) : (plNext s).phase = s.phase := by rw [plNext_frame]
@[simp] theorem plNext_bitpos (s : State) : (plNext s).bitpos = s.bitpos := by rw [plNext_frame]
@[simp] theorem plNext_ver (s : State) : (plNext s).ver = s.ver := by rw [plNext_frame]
@[simp] theorem plNext_size (s : State) : (plNext s).size = s.size := by rw [State.size, plNext_ver]; rfl
@[simp] theorem plNext_slen (s : State) : (plNext s).slen = s.slen := by rw [plNext_frame]; rfl

/-- `pl_next()` is absorbing once done (R301). -/
theorem plNext_of_done {s : State} (h : s.plDone = true) : plNext s = s := if_pos h

/-- The skipping loop is `pl_next()` some number of times, over modules that are not `Unset`, until it stops or the
fuel is used up (R305). -/
theorem plSkip_eq (fuel : Nat) (s : State) :
    ∃ n ≤ fuel, plSkip fuel s = plNexts n s ∧
      (∀ k < n, (plNexts k s).plDone = false ∧ (plNexts k s).plModule ≠ .unset) ∧
      (n < fuel → ¬((plNexts n s).plDone = false ∧ (plNexts n s).plModule ≠ .unset)) := by
  induction fuel generalizing s with
  | zero => exact ⟨0, Nat.le_refl _, rfl, fun k hk => by omega, fun h => by omega⟩
  | succ fuel ih =>
    by_cases h : s.plDone = false ∧ s.plModule ≠ .unset
    · obtain ⟨n, hn, he, hbefore, hafter⟩ := ih (plNext s)
      refine ⟨n + 1, by omega, ?_, ?_, ?_⟩
      · rw [plSkip, if_pos h, he, plNexts]
      · intro k hk
        cases k with
        | zero => exact h
        | succ k => rw [plNexts]; exact hbefore k (by omega)
      · intro hlt
        rw [plNexts]
        exact hafter (by omega)
    · exact ⟨0, by omega, by rw [plSkip, if_neg h]; rfl, fun k hk => by omega, fun _ => h⟩

end Sys2Proof.Machine
end

