-- ==== Sys2Proof/Laws/Exec.lean ====
section
/-! SUPPORT. The commands seen alike: `exec` is one frame around one body per command. -/
namespace Sys2Proof.Machine

/-- The body each command runs in its frame; that of `SRESET` needs none. -/
def bodyOf : Instr → State → Except ErrCode State
  | .nop => fun s => .ok s
  | .sreset => fun s => .ok (resetState s)
  | .cfgSym ver ecl me => cfgSymBody ver ecl me
  | .gfMul a b => fun s => .ok (setRes (zext32 (gfMul a b).toNat) s)
  | .gfExp e => fun s => .ok (setRes (zext32 (gfExpOf e.toNat).toNat) s)
  | .gfLog a => gfLogBody a
  | .gfGen r j => gfGenBody r j
  | .bsHead count => bsHeadBody count
  | .bsNum3 c2 c1 c0 => bsNum3Body c2 c1 c0
  | .bsNum2 c1 c0 => bsNum2Body c1 c0
  | .bsNum1 c0 => bsNum1Body c0
  | .bsAn2 a b => bsAn2Body a b
  | .bsAn1 a => bsAn1Body a
  | .bsByte b => bsByteBody b
  | .bsKanji b1 b0 => bsKanjiBody b1 b0
  | .bsTerm => bsTermBody
  | .bsAlign => bsAlignBody
  | .bsPad => bsPadBody
  | .bsFinish => bsFinishBody
  | .bsGet i => bsGetBody i
  | .bsGetb i => bsGetbBody i
  | .rsCfg k r => rsCfgBody k.toNat r.toNat
  | .rsData d => rsDataBody d
  | .rsStep => rsStepBody
  | .rsRun => rsRunBody
  | .rsGet i => rsGetBody i
  | .synClr r => synClrBody r
  | .synIn b => synInBody b
  | .synGet j => synGetBody j
  | .synOk => synOkBody
  | .eccRun => eccRunBody
  | .blkGet b i => blkGetBody b i
  | .cwGet i => cwGetBody i
  | .mxInit => mxInitBody
  | .mxFinder => fun s => .ok (mxFinderOp s)
  | .mxTiming => fun s => .ok (mxTimingOp s)
  | .mxAlign => fun s => .ok (mxAlignOp s)
  | .mxReserve => fun s => .ok (mxReserveOp s)
  | .mxFunc => fun s => .ok (mxFuncOp s)
  | .mxGet row col => mxGetBody row col
  | .mxPix row col => mxPixBody row col
  | .plStart => plStartBody
  | .plNext => plNextBody
  | .plBit => plBitBody
  | .plRun => plRunBody
  | .mkApply m => mkApplyBody m
  | .mkPen k => mkPenBody k
  | .mkSelect => mkSelectBody
  | .mkBit m row col => mkBitBody m row col
  | .mkTrial m => mkTrialBody m
  | .fmtWord e m => fmtWordBody e m
  | .verWord v => verWordBody v
  | .mdFmt m => mdFmtBody m
  | .mdVer => mdVerBody

/-- Every command but `SRESET` is its body in the common frame. -/
theorem exec_eq_command {i : Instr} (h : i ≠ .sreset) (s : State) : exec i s = command i (bodyOf i) s := by
  cases i <;> first | rfl | exact absurd rfl h

theorem exec_sreset (s : State) : exec .sreset s = .next (resetState s) := rfl

/-- A command other than `SRESET` does nothing in `ERROR` (R375). -/
theorem exec_of_error {i : Instr} (hi : i ≠ .sreset) {s : State} (h : s.phase = .error) : exec i s = .next s := by
  rw [exec_eq_command hi, command_of_error h]

/-- Out of its phases a command raises `SequenceError` (R47). -/
theorem exec_of_illegal {i : Instr} {s : State} (h : s.phase ≠ .error) (hl : legalIn i s.phase = false) :
    exec i s = .next (raise .sequenceError (encode i) s) := by
  have hi : i ≠ .sreset := by rintro rfl; exact absurd hl (by simp [legalIn])
  rw [exec_eq_command hi, command_of_illegal h hl]

/-- In its phases a command is its body. -/
theorem exec_of_legal {i : Instr} (hi : i ≠ .sreset) {s : State} (h : s.phase ≠ .error)
    (hl : legalIn i s.phase = true) : exec i s = settle (encode i) s (bodyOf i s) := by
  rw [exec_eq_command hi, command_of_legal h hl]

/-- Everything `exec` can do. -/
theorem exec_cases {i : Instr} {s t : State} (h : exec i s = .next t) :
    (i = .sreset ∧ t = resetState s) ∨
    (s.phase = .error ∧ t = s) ∨
    (s.phase ≠ .error ∧ legalIn i s.phase = false ∧ t = raise .sequenceError (encode i) s) ∨
    (i ≠ .sreset ∧ s.phase ≠ .error ∧ legalIn i s.phase = true ∧
      ((∃ e, bodyOf i s = .error e ∧ t = raise e (encode i) s) ∨ bodyOf i s = .ok t)) := by
  by_cases hi : i = .sreset
  · subst hi; cases h; exact .inl ⟨rfl, rfl⟩
  · rw [exec_eq_command hi] at h
    rcases command_cases h with h | h | ⟨h1, h2, h3⟩
    · exact .inr (.inl h)
    · exact .inr (.inr (.inl h))
    · exact .inr (.inr (.inr ⟨hi, h1, h2, h3⟩))

/-- Nothing in QRCORE stops the machine: every command answers a next state (R374, R408). -/
theorem exec_next (i : Instr) (s : State) : ∃ t, exec i s = .next t := by
  by_cases hi : i = .sreset
  · subst hi; exact ⟨_, rfl⟩
  · rw [exec_eq_command hi]; exact command_next _ _ s

end Sys2Proof.Machine
end

