-- ==== Sys2Proof/Laws/PerInstr.lean ====
section
/-! SUPPORT. Statements about every command as syntax, one lemma per constructor. `OpcodeByte`: the opcode byte of the
command's word is a row of the opcode table, and the row's reserved bits are 0 in it (spec/30_encoding.md R131, R135,
R137). -/
namespace Sys2Proof.Laws.OpcodeByte

/-- The word of a well-formed command matches a row of the opcode table. -/
def Statement (i : Instr) : Prop :=
  i.wellFormed = true → ∃ m, (opField (encode i), m) ∈ Machine.opcodeTable ∧ encode i &&& m = 0#32

/-- The bits a row reserves, of a word made of fields. -/
theorem and_eq_zero {w m : Word} (h : ∀ k < 32, m.getLsbD k = true → w.getLsbD k = false) : w &&& m = 0#32 := by
  refine BitVec.eq_of_getLsbD_eq fun k hk => ?_
  rw [BitVec.getLsbD_and, BitVec.getLsbD_zero]
  cases hm : m.getLsbD k with
  | false => simp
  | true => simp [h k hk hm]

/-- Format Z leaves bits 23 to 0 clear. -/
theorem and_formatZ (op : Byte) : fieldsWord op 0 0 0 &&& 0x00FFFFFF#32 = 0#32 := by
  refine and_eq_zero fun k hk hm => ?_
  have : k < 24 := (by decide : ∀ k < 32, (0x00FFFFFF#32).getLsbD k = true → k < 24) k hk hm
  rw [getLsbD_fieldsWord]
  rw [if_pos (show k - 8 - 8 < 8 by omega)]
  simp

/-- Format C1 leaves bits 23 to 8 clear. -/
theorem and_formatC1 (op f0 : Byte) : fieldsWord op 0 0 f0 &&& 0x00FFFF00#32 = 0#32 := by
  refine and_eq_zero fun k hk hm => ?_
  have : 8 ≤ k ∧ k < 24 := (by decide : ∀ k < 32, (0x00FFFF00#32).getLsbD k = true → 8 ≤ k ∧ k < 24) k hk hm
  rw [getLsbD_fieldsWord]
  rw [if_neg (show ¬k < 8 by omega), if_pos (show k - 8 - 8 < 8 by omega)]
  simp

/-- Formats C2 and H leave bits 23 to 16 clear. -/
theorem and_formatC2 (op f1 f0 : Byte) : fieldsWord op 0 f1 f0 &&& 0x00FF0000#32 = 0#32 := by
  refine and_eq_zero fun k hk hm => ?_
  have : 16 ≤ k ∧ k < 24 := (by decide : ∀ k < 32, (0x00FF0000#32).getLsbD k = true → 16 ≤ k ∧ k < 24) k hk hm
  rw [getLsbD_fieldsWord]
  rw [if_neg (show ¬k < 8 by omega), if_neg (show ¬k - 8 < 8 by omega), if_pos (show k - 8 - 8 < 8 by omega)]
  simp

/-- Format C3 reserves nothing. -/
theorem and_formatC3 (w : Word) : w &&& 0x00000000#32 = 0#32 := BitVec.and_zero

/-! One lemma per command. -/

theorem nop : Statement .nop := fun _ =>
  ⟨0x00FFFFFF#32, by decide, by decide⟩

theorem sreset : Statement .sreset := fun _ =>
  ⟨0x00FFFFFF#32, by decide, by decide⟩

theorem cfgSym (ver ecl me : Byte) : Statement (.cfgSym ver ecl me) := by
  intro h
  have hme : me.toNat < 2 ^ 3 := of_decide_eq_true h
  refine ⟨0x000000F8#32, ?_, and_eq_zero fun k hk hm => ?_⟩
  · rw [encode, opField_fieldsWord]; decide
  · have : 3 ≤ k ∧ k < 8 := (by decide : ∀ k < 32, (0x000000F8#32).getLsbD k = true → 3 ≤ k ∧ k < 8) k hk hm
    rw [encode, getLsbD_fieldsWord, if_pos this.2]
    exact Nat.testBit_lt_two_pow (Nat.lt_of_lt_of_le hme (Nat.pow_le_pow_right (by decide) this.1))

theorem gfMul (a b : Byte) : Statement (.gfMul a b) := fun _ =>
  ⟨0x00FF0000#32, by rw [encode, opField_fieldsWord]; decide, and_formatC2 ..⟩

theorem gfExp (e : Byte) : Statement (.gfExp e) := fun _ =>
  ⟨0x00FFFF00#32, by rw [encode, opField_fieldsWord]; decide, and_formatC1 ..⟩

theorem gfLog (a : Byte) : Statement (.gfLog a) := fun _ =>
  ⟨0x00FFFF00#32, by rw [encode, opField_fieldsWord]; decide, and_formatC1 ..⟩

theorem gfGen (r j : Byte) : Statement (.gfGen r j) := fun _ =>
  ⟨0x00FF0000#32, by rw [encode, opField_fieldsWord]; decide, and_formatC2 ..⟩

theorem bsHead (count : BitVec 16) : Statement (.bsHead count) := fun _ =>
  ⟨0x00FF0000#32, by rw [encode, opField_halfWord]; decide, by rw [encode, halfWord_fields]; exact and_formatC2 ..⟩

theorem bsNum3 (c2 c1 c0 : Byte) : Statement (.bsNum3 c2 c1 c0) := fun _ =>
  ⟨0x00000000#32, by rw [encode, opField_fieldsWord]; decide, and_formatC3 ..⟩

theorem bsNum2 (c1 c0 : Byte) : Statement (.bsNum2 c1 c0) := fun _ =>
  ⟨0x00FF0000#32, by rw [encode, opField_fieldsWord]; decide, and_formatC2 ..⟩

theorem bsNum1 (c0 : Byte) : Statement (.bsNum1 c0) := fun _ =>
  ⟨0x00FFFF00#32, by rw [encode, opField_fieldsWord]; decide, and_formatC1 ..⟩

theorem bsAn2 (a b : Byte) : Statement (.bsAn2 a b) := fun _ =>
  ⟨0x00FF0000#32, by rw [encode, opField_fieldsWord]; decide, and_formatC2 ..⟩

theorem bsAn1 (a : Byte) : Statement (.bsAn1 a) := fun _ =>
  ⟨0x00FFFF00#32, by rw [encode, opField_fieldsWord]; decide, and_formatC1 ..⟩

theorem bsByte (b : Byte) : Statement (.bsByte b) := fun _ =>
  ⟨0x00FFFF00#32, by rw [encode, opField_fieldsWord]; decide, and_formatC1 ..⟩

theorem bsKanji (b1 b0 : Byte) : Statement (.bsKanji b1 b0) := fun _ =>
  ⟨0x00FF0000#32, by rw [encode, opField_fieldsWord]; decide, and_formatC2 ..⟩

theorem bsTerm : Statement .bsTerm := fun _ =>
  ⟨0x00FFFFFF#32, by decide, by decide⟩

theorem bsAlign : Statement .bsAlign := fun _ =>
  ⟨0x00FFFFFF#32, by decide, by decide⟩

theorem bsPad : Statement .bsPad := fun _ =>
  ⟨0x00FFFFFF#32, by decide, by decide⟩

theorem bsFinish : Statement .bsFinish := fun _ =>
  ⟨0x00FFFFFF#32, by decide, by decide⟩

theorem bsGet (i : BitVec 16) : Statement (.bsGet i) := fun _ =>
  ⟨0x00FF0000#32, by rw [encode, opField_halfWord]; decide, by rw [encode, halfWord_fields]; exact and_formatC2 ..⟩

theorem bsGetb (i : BitVec 16) : Statement (.bsGetb i) := fun _ =>
  ⟨0x00FF0000#32, by rw [encode, opField_halfWord]; decide, by rw [encode, halfWord_fields]; exact and_formatC2 ..⟩

theorem rsCfg (k r : Byte) : Statement (.rsCfg k r) := fun _ =>
  ⟨0x00FF0000#32, by rw [encode, opField_fieldsWord]; decide, and_formatC2 ..⟩

theorem rsData (d : Byte) : Statement (.rsData d) := fun _ =>
  ⟨0x00FFFF00#32, by rw [encode, opField_fieldsWord]; decide, and_formatC1 ..⟩

theorem rsStep : Statement .rsStep := fun _ =>
  ⟨0x00FFFFFF#32, by decide, by decide⟩

theorem rsRun : Statement .rsRun := fun _ =>
  ⟨0x00FFFFFF#32, by decide, by decide⟩

theorem rsGet (i : Byte) : Statement (.rsGet i) := fun _ =>
  ⟨0x00FFFF00#32, by rw [encode, opField_fieldsWord]; decide, and_formatC1 ..⟩

theorem synClr (r : Byte) : Statement (.synClr r) := fun _ =>
  ⟨0x00FFFF00#32, by rw [encode, opField_fieldsWord]; decide, and_formatC1 ..⟩

theorem synIn (b : Byte) : Statement (.synIn b) := fun _ =>
  ⟨0x00FFFF00#32, by rw [encode, opField_fieldsWord]; decide, and_formatC1 ..⟩

theorem synGet (j : Byte) : Statement (.synGet j) := fun _ =>
  ⟨0x00FFFF00#32, by rw [encode, opField_fieldsWord]; decide, and_formatC1 ..⟩

theorem synOk : Statement .synOk := fun _ =>
  ⟨0x00FFFFFF#32, by decide, by decide⟩

theorem eccRun : Statement .eccRun := fun _ =>
  ⟨0x00FFFFFF#32, by decide, by decide⟩

theorem blkGet (b i : Byte) : Statement (.blkGet b i) := fun _ =>
  ⟨0x00FF0000#32, by rw [encode, opField_fieldsWord]; decide, and_formatC2 ..⟩

theorem cwGet (i : BitVec 16) : Statement (.cwGet i) := fun _ =>
  ⟨0x00FF0000#32, by rw [encode, opField_halfWord]; decide, by rw [encode, halfWord_fields]; exact and_formatC2 ..⟩

theorem mxInit : Statement .mxInit := fun _ =>
  ⟨0x00FFFFFF#32, by decide, by decide⟩

theorem mxFinder : Statement .mxFinder := fun _ =>
  ⟨0x00FFFFFF#32, by decide, by decide⟩

theorem mxTiming : Statement .mxTiming := fun _ =>
  ⟨0x00FFFFFF#32, by decide, by decide⟩

theorem mxAlign : Statement .mxAlign := fun _ =>
  ⟨0x00FFFFFF#32, by decide, by decide⟩

theorem mxReserve : Statement .mxReserve := fun _ =>
  ⟨0x00FFFFFF#32, by decide, by decide⟩

theorem mxFunc : Statement .mxFunc := fun _ =>
  ⟨0x00FFFFFF#32, by decide, by decide⟩

theorem mxGet (row col : Byte) : Statement (.mxGet row col) := fun _ =>
  ⟨0x00FF0000#32, by rw [encode, opField_fieldsWord]; decide, and_formatC2 ..⟩

theorem mxPix (row col : Byte) : Statement (.mxPix row col) := fun _ =>
  ⟨0x00FF0000#32, by rw [encode, opField_fieldsWord]; decide, and_formatC2 ..⟩

theorem plStart : Statement .plStart := fun _ =>
  ⟨0x00FFFFFF#32, by decide, by decide⟩

theorem plNext : Statement .plNext := fun _ =>
  ⟨0x00FFFFFF#32, by decide, by decide⟩

theorem plBit : Statement .plBit := fun _ =>
  ⟨0x00FFFFFF#32, by decide, by decide⟩

theorem plRun : Statement .plRun := fun _ =>
  ⟨0x00FFFFFF#32, by decide, by decide⟩

theorem mkApply (m : Byte) : Statement (.mkApply m) := fun _ =>
  ⟨0x00FFFF00#32, by rw [encode, opField_fieldsWord]; decide, and_formatC1 ..⟩

theorem mkPen (k : Byte) : Statement (.mkPen k) := fun _ =>
  ⟨0x00FFFF00#32, by rw [encode, opField_fieldsWord]; decide, and_formatC1 ..⟩

theorem mkSelect : Statement .mkSelect := fun _ =>
  ⟨0x00FFFFFF#32, by decide, by decide⟩

theorem mkBit (m row col : Byte) : Statement (.mkBit m row col) := fun _ =>
  ⟨0x00000000#32, by rw [encode, opField_fieldsWord]; decide, and_formatC3 ..⟩

theorem mkTrial (m : Byte) : Statement (.mkTrial m) := fun _ =>
  ⟨0x00FFFF00#32, by rw [encode, opField_fieldsWord]; decide, and_formatC1 ..⟩

theorem fmtWord (e m : Byte) : Statement (.fmtWord e m) := fun _ =>
  ⟨0x00FF0000#32, by rw [encode, opField_fieldsWord]; decide, and_formatC2 ..⟩

theorem verWord (v : Byte) : Statement (.verWord v) := fun _ =>
  ⟨0x00FFFF00#32, by rw [encode, opField_fieldsWord]; decide, and_formatC1 ..⟩

theorem mdFmt (m : Byte) : Statement (.mdFmt m) := fun _ =>
  ⟨0x00FFFF00#32, by rw [encode, opField_fieldsWord]; decide, and_formatC1 ..⟩

theorem mdVer : Statement .mdVer := fun _ =>
  ⟨0x00FFFFFF#32, by decide, by decide⟩

end Sys2Proof.Laws.OpcodeByte
end

