-- ==== Sys2Proof/Laws/Tables.lean ====
section
/-! SUPPORT. Facts about the tables of spec/11_rom_tables.md that later proofs need: lengths, ranges, and that the
default block structures and alignment lists are well-formed. -/
namespace Sys2Proof.Machine

theorem length_expTable : expTable.length = 256 := by decide +kernel

theorem length_logTable : logTable.length = 255 := by decide +kernel

/-- The logarithm of a non-zero element is below 255 (R73). -/
theorem gfLogOf_lt {a : Byte} (h : a ≠ 0) : gfLogOf a < 255 := by
  revert a; decide +kernel

/-- Every default record is well-formed (R85, R88). -/
theorem vspec_default_wf : ∀ v ∈ List.range' 1 40, ∀ e ∈ List.range 4, (vspecAt defaultParams v e).wf = true := by
  decide +kernel

/-- Every default alignment list is well-formed (R89). -/
theorem align_default_wf : ∀ v ∈ List.range' 1 40, alignListWf v (alignAt defaultParams v) = true := by
  decide +kernel

/-- The default block structures and alignment lists are well-formed (R85, R89). -/
theorem params_default_blocksWf : defaultParams.blocksWf = true := by
  decide +kernel

/-- The phases a command is legal in, outside `ERROR`, are phases 0 to 11 (R23). -/
theorem phase_code_le {p : Phase} (h : p ≠ .error) : p.code ≤ 11 := by
  cases p <;> first | decide | exact absurd rfl h

end Sys2Proof.Machine
end

