-- ==== Sys2Proof/Tests/Slice0.lean ====
section
/-! SUPPORT. The model's own tests. Expected values are those of spec/95_test_vectors.md (V<n>, P<n>) and of the worked
examples of the rules; each test is one step on a small state. At the end, a witness for the hypotheses of each
statement of Certificates/Slice0/Obligations.lean. -/
namespace Sys2Proof.Tests
open Sys2Proof Sys2Proof.Machine
set_option Elab.async false

/-! Helpers: what a command answers, and states to run it on. -/

/-- The state after a command; every command answers a next state. -/
def after (i : Instr) (s : State) : State :=
  match exec i s with
  | .next t => t
  | .fault _ => s
  | .refused _ => s

/-- The state after issuing a word. -/
def issued (w : Word) (s : State) : State :=
  match issue w s with
  | .next t => t
  | .fault _ => s
  | .refused _ => s

/-- A symbol of version 1, level Q (`CAPBITS = 104`, 13 data and 13 parity bytes), in a phase. -/
def symbol (p : Phase) : State := { State.reset with ver := 1, ecl := .Q, mode := .alphanumeric, phase := p }

/-- In `PAYLOAD`, version 1 level L (`CAPBITS = 152`), with `n` bits in the stream. -/
def payload (m : Mode) (n : Nat) : State :=
  { State.reset with
    ver := 1, mode := m, phase := .payload, decl := 2, bitbuf := List.replicate n true, bitlen := BitVec.ofNat 15 n }

/-- The bits a command added to a stream of 14 bits. -/
def added (i : Instr) (m : Mode) : List Bool := (after i (payload m 14)).bitbuf.drop 14

/-- `RSBUF` with these bytes first. -/
def rsbufOf (l : List Byte) : List Byte := l ++ List.replicate (255 - l.length) 0

/-- The divider of V21: `k = 3`, `r = 7`, loaded. -/
def divider : State := { State.reset with rsK := 3, rsR := 7, rsFill := 3, rsbuf := rsbufOf [0x12, 0x34, 0x56] }

/-- The syndrome calculator with these accumulators. -/
def syndrome (l : List Byte) : State :=
  { State.reset with synR := BitVec.ofNat 5 l.length, syn := l ++ List.replicate (30 - l.length) 0 }

/-- The data codewords of the "HELLO WORLD" symbol (R218). -/
def helloData : List Byte := [0x20, 0x5B, 0x0B, 0x78, 0xD1, 0x72, 0xDC, 0x4D, 0x43, 0x40, 0xEC, 0x11, 0xEC]

/-- Its parity codewords (R254). -/
def helloParity : List Byte := [0xA8, 0x48, 0x16, 0x52, 0xD9, 0x36, 0x9C, 0x00, 0x2E, 0x0F, 0xB4, 0x7A, 0x10]

/-- The symbol packed (P2). -/
def helloPacked : State :=
  { symbol .packed with bitbuf := helloData.flatMap fun b => bitsMSB b.toNat 8, bitlen := 104 }

/-- The symbol coded (P3). -/
def helloCoded (p : Phase) : State :=
  { helloPacked with phase := p, par := [helloParity], cw := helloData ++ helloParity, cwlen := 26 }

/-- A 21 by 21 grid from rows of text: `#` and `.` function modules, `1` and `0` data modules, else `Unset`. -/
def gridOf (rows : List String) : List (List Module) :=
  rows.map fun row => row.toList.map fun ch =>
    if ch = '#' then .function true else if ch = '.' then .function false
    else if ch = '1' then .data true else if ch = '0' then .data false else .unset

/-- Rows of text from a grid of side 21. -/
def pictureOf (g : List (List Module)) : List String :=
  (List.range 21).map fun r => String.ofList <| (List.range 21).map fun c =>
    match gridAt g r c with
    | .function d => if d then '#' else '.'
    | .data d => if d then '1' else '0'
    | .unset => '?'

/-- The grid after `MX_FUNC` for version 1 (R284). -/
def functionPicture : List String :=
  ["#######..????.#######", "#.....#..????.#.....#", "#.###.#..????.#.###.#", "#.###.#..????.#.###.#",
    "#.###.#..????.#.###.#", "#.....#..????.#.....#", "#######.#.#.#.#######", ".........????........",
    "......#..????........", "??????.??????????????", "??????#??????????????", "??????.??????????????"]
  ++ ["??????#??????????????", "........#????????????", "#######..????????????", "#.....#..????????????",
    "#.###.#..????????????", "#.###.#..????????????", "#.###.#..????????????", "#.....#..????????????",
    "#######..????????????"]

/-- The finished symbol (V51). -/
def finishedPicture : List String :=
  ["#######....#..#######", "#.....#.##..#.#.....#", "#.###.#..#.##.#.###.#", "#.###.#.#####.#.###.#",
    "#.###.#.##.#..#.###.#", "#.....#..#..#.#.....#", "#######.#.#.#.#######", "........##.##........",
    ".#.####.##..###.##.#.", "#.####.#....####.###.", "..#.#.##...#..##.....", "#.##.#...#.##...##..."]
  ++ ["##.########.###.#####", "........#...#..#.#...", "#######..##..##..####", "#.....#.#.#..#..#.###",
    "#.###.#.##.#..#...###", "#.###.#.#.###...#.#..", "#.###.#..#....#....##", "#.....#.###..###..##.",
    "#######..#.#.......#."]

/-- The finished symbol's grid: a module is data where the picture after `MX_FUNC` has none (V51, R284). -/
def finishedGrid : List (List Module) :=
  (gridOf finishedPicture).zip (gridOf functionPicture) |>.map fun (row, frame) =>
    row.zip frame |>.map fun (x, f) => if f = .unset then .data (darkOf x) else x

/-- The symbol before selection: mask 6, the one selected, taken out of the data modules (R321, V45). -/
def placedGrid : List (List Module) :=
  finishedGrid.zipIdx.map fun (row, r) => row.zipIdx.map fun (x, c) =>
    match x with
    | .data d => .data (d ^^ ((r * c % 2 + r * c % 3) % 2 = 0))
    | y => y

/-- Version 1, with a grid, in a phase. -/
def drawn (p : Phase) (g : List (List Module)) : State := { helloCoded p with grid := g, fnmask := 0b1111 }

/-- A grid with nothing in it. -/
def blank : List (List Module) := List.replicate 21 (List.replicate 21 .unset)

/-- A table of one record with one codeword, to place eight bits only. -/
def tinyParams : Params := { defaultParams with vspec := [List.replicate 4 ⟨1, 7, 1, 1, 0, 0⟩] }

/-- Eight `Unset` modules at the bottom right, one codeword `0x20`. -/
def tiny (p : Phase) : State :=
  { drawn p ((List.replicate 17 (List.replicate 21 (.function false)))
      ++ List.replicate 4 (List.replicate 19 (.function false) ++ [.unset, .unset])) with
    params := tinyParams, cw := [0x20], cwlen := 1 }

/-! WellFormed refuses the one ill-formed operand (R137), and accepts at the edge. -/

theorem test_wellFormed_refuses_reserved_me : (Instr.cfgSym 1 2 8).wellFormed = false := by decide
theorem test_wellFormed_accepts_me_7 : (Instr.cfgSym 40 3 7).wellFormed = true := by decide

/-! Decoding, one word of every constructor, written out from R130, R131 and R135. -/

theorem test_decode_control :
    decodeTableWord 32 0x00000000 = some .nop ∧ decodeTableWord 32 0x01000000 = some .sreset ∧
    decodeTableWord 32 0x02010201 = some (.cfgSym 1 2 1) := by decide

theorem test_decode_gf :
    decodeTableWord 32 0x100053CA = some (.gfMul 0x53 0xCA) ∧ decodeTableWord 32 0x110000C8 = some (.gfExp 200) ∧
    decodeTableWord 32 0x1200008E = some (.gfLog 0x8E) ∧ decodeTableWord 32 0x13000703 = some (.gfGen 7 3) := by decide

theorem test_decode_packer :
    decodeTableWord 32 0x2000000B = some (.bsHead 11) ∧ decodeTableWord 32 0x200003FF = some (.bsHead 1023) ∧
    decodeTableWord 32 0x21303132 = some (.bsNum3 0x30 0x31 0x32) ∧
    decodeTableWord 32 0x22003637 = some (.bsNum2 0x36 0x37) ∧ decodeTableWord 32 0x23000039 = some (.bsNum1 0x39) ∧
    decodeTableWord 32 0x24004845 = some (.bsAn2 0x48 0x45) ∧ decodeTableWord 32 0x25000044 = some (.bsAn1 0x44) ∧
    decodeTableWord 32 0x260000C3 = some (.bsByte 0xC3) ∧ decodeTableWord 32 0x2700935F = some (.bsKanji 0x93 0x5F) ∧
    decodeTableWord 32 0x28000000 = some .bsTerm ∧ decodeTableWord 32 0x29000000 = some .bsAlign ∧
    decodeTableWord 32 0x2A000000 = some .bsPad ∧ decodeTableWord 32 0x2B000000 = some .bsFinish ∧
    decodeTableWord 32 0x2C000102 = some (.bsGet 0x102) ∧ decodeTableWord 32 0x2D000203 = some (.bsGetb 0x203) := by decide

theorem test_decode_rs :
    decodeTableWord 32 0x3000E11E = some (.rsCfg 225 30) ∧ decodeTableWord 32 0x31000012 = some (.rsData 0x12) ∧
    decodeTableWord 32 0x32000000 = some .rsStep ∧ decodeTableWord 32 0x33000000 = some .rsRun ∧
    decodeTableWord 32 0x34000019 = some (.rsGet 25) ∧ decodeTableWord 32 0x3500001E = some (.synClr 30) ∧
    decodeTableWord 32 0x36000005 = some (.synIn 5) ∧ decodeTableWord 32 0x37000007 = some (.synGet 7) ∧
    decodeTableWord 32 0x38000000 = some .synOk ∧ decodeTableWord 32 0x39000000 = some .eccRun ∧
    decodeTableWord 32 0x3A00020F = some (.blkGet 2 15) ∧ decodeTableWord 32 0x3B000185 = some (.cwGet 0x185) := by decide

theorem test_decode_matrix :
    decodeTableWord 32 0x40000000 = some .mxInit ∧ decodeTableWord 32 0x41000000 = some .mxFinder ∧
    decodeTableWord 32 0x42000000 = some .mxTiming ∧ decodeTableWord 32 0x43000000 = some .mxAlign ∧
    decodeTableWord 32 0x44000000 = some .mxReserve ∧ decodeTableWord 32 0x45000000 = some .mxFunc ∧
    decodeTableWord 32 0x46000D08 = some (.mxGet 13 8) ∧ decodeTableWord 32 0x47001500 = some (.mxPix 21 0) := by decide

theorem test_decode_placer :
    decodeTableWord 32 0x50000000 = some .plStart ∧ decodeTableWord 32 0x51000000 = some .plNext ∧
    decodeTableWord 32 0x52000000 = some .plBit ∧ decodeTableWord 32 0x53000000 = some .plRun := by decide

theorem test_decode_masks :
    decodeTableWord 32 0x60000006 = some (.mkApply 6) ∧ decodeTableWord 32 0x61000004 = some (.mkPen 4) ∧
    decodeTableWord 32 0x62000000 = some .mkSelect ∧ decodeTableWord 32 0x63040305 = some (.mkBit 4 3 5) ∧
    decodeTableWord 32 0x64000006 = some (.mkTrial 6) := by decide

theorem test_decode_metadata :
    decodeTableWord 32 0x70000206 = some (.fmtWord 2 6) ∧ decodeTableWord 32 0x71000028 = some (.verWord 40) ∧
    decodeTableWord 32 0x72000005 = some (.mdFmt 5) ∧ decodeTableWord 32 0x73000000 = some .mdVer := by decide

/-- V59, V58: unassigned opcodes and reserved bits of every format. -/
theorem test_decode_refuses :
    [0x03000000, 0x14000000, 0x2E000000, 0xFF000000, 0x00000001, 0x01000100, 0x10010000, 0x11000100, 0x2C010000,
      0x02010208, 0x20FF0001].all (fun w => decodeTableWord 32 w = none) = true := by decide

/-! Issuing, the register map and reset. -/

/-- V59: the word is recorded. -/
theorem test_issue_illegal : statusReg (issued 0x03000000 .reset) = 0x0000807F ∧ (issued 0x03000000 .reset).errcmd = 0x03000000 := by
  decide +kernel

/-- V60: nothing but the exact word of `SRESET` acts in `ERROR`. -/
theorem test_issue_in_error :
    issued 0x10000203 (issued 0x03000000 .reset) = issued 0x03000000 .reset ∧
    issued 0x01000001 (issued 0x03000000 .reset) = issued 0x03000000 .reset ∧
    issued 0x01000000 (issued 0x03000000 .reset) = State.reset := by decide +kernel

/-- R400: `STATUS` reads 0x00008000, every other register 0. -/
theorem test_registers_after_reset :
    (List.range 14).map (fun k => hostRead (4 * k) State.reset) = [0, 0x00008000, 0, 0, 0, 0, 0, 0, 0, 0, 0, 0, 0, 0] := by
  decide +kernel

/-- V58: `SYMCFG` of version 40, level H, Kanji with `ENC` set. -/
theorem test_symcfg : symcfgReg (after (.cfgSym 40 3 7) .reset) = 0xB1013328 := by decide +kernel

/-- A read of the host has no effect but its reply (R103). -/
theorem test_step_read :
    (match step { State.reset with pending := [.read 0x04 4] } with
      | .next t => t.replies = [0x00008000] ∧ t = { State.reset with replies := t.replies }
      | _ => False) := by
  refine ⟨rfl, rfl⟩

/-! Control. -/

theorem test_nop : after .nop divider = divider := by decide +kernel
theorem test_sreset : after .sreset divider = State.reset := by decide +kernel
/-- V58. -/
theorem test_cfgSym : statusReg (after (.cfgSym 1 2 1) .reset) = 0x00008001 ∧ symcfgReg (after (.cfgSym 1 2 1) .reset) = 0x15001201 := by
  decide +kernel
/-- V58: the version is checked first. -/
theorem test_cfgSym_errors :
    (after (.cfgSym 0 9 0) .reset).err = .unsupportedVersion ∧ (after (.cfgSym 41 0 0) .reset).err = .unsupportedVersion ∧
    (after (.cfgSym 1 4 0) .reset).err = .unsupportedECLevel := by decide +kernel

/-! GF(256): V2 to V7. -/

theorem test_gfMul : (after (.gfMul 0x53 0xCA) .reset).res = 0x8F ∧ (after (.gfMul 0xFF 0xFF) .reset).res = 0xE2 := by decide +kernel
theorem test_gfMul_zero : (after (.gfMul 0x00 0x57) .reset).res = 0 ∧ gfMulShift 0x02 0x80 = 0x1D := by decide +kernel
theorem test_gfExp : (after (.gfExp 200) .reset).res = 0x1C ∧ (after (.gfExp 255) .reset).res = 1 := by decide +kernel
theorem test_gfLog : (after (.gfLog 0x8E) .reset).res = 254 ∧ (after (.gfLog 0xA8) .reset).res = 144 := by decide +kernel
theorem test_gfLog_zero : statusReg (after (.gfLog 0) .reset) = 0x0000809F := by decide +kernel
theorem test_gfGen : (after (.gfGen 7 3) .reset).res = 0x9A ∧ (after (.gfGen 30 30) .reset).res = 0x96 := by decide +kernel
theorem test_gfGen_errors : (after (.gfGen 8 0) .reset).err = .operandRange ∧ (after (.gfGen 7 8) .reset).err = .operandRange := by
  decide +kernel

/-! The packer: V10 to V19. -/

/-- V14: the ECI header, Byte mode in UTF-8. -/
theorem test_bsHead_eci :
    (after (.bsHead 2) { symbol .configured with mode := .byte, enc := .utf8 }).bitbuf =
      [false, true, true, true, false, false, false, true, true, false, true, false, false, true, false, false,
        false, false, false, false, false, false, true, false] := by decide +kernel
/-- V19: a zero count, and a count that does not fit its field. -/
theorem test_bsHead_errors :
    (after (.bsHead 0) { symbol .configured with mode := .numeric }).err = .invalidMode ∧
    (after (.bsHead 1024) { symbol .configured with mode := .numeric }).err = .capacityExceeded := by decide +kernel
/-- V11: `012` is `0000001100`. -/
theorem test_bsNum3 : added (.bsNum3 0x30 0x31 0x32) .numeric =
    [false, false, false, false, false, false, true, true, false, false] := by decide +kernel
/-- V19: a letter among the digits; nothing is appended. -/
theorem test_bsNum3_letter :
    (after (.bsNum3 0x31 0x41 0x33) (payload .numeric 14)).err = .invalidMode ∧
    (after (.bsNum3 0x31 0x41 0x33) (payload .numeric 14)).bitlen = 14 := by decide +kernel
/-- V11: `67` is `1000011`, and the group is short. -/
theorem test_bsNum2 :
    added (.bsNum2 0x36 0x37) .numeric = [true, false, false, false, false, true, true] ∧
    (after (.bsNum2 0x36 0x37) (payload .numeric 14)).tail = true := by decide +kernel
/-- V10: `9` is `1001`, one character more. -/
theorem test_bsNum1 :
    added (.bsNum1 0x39) .numeric = [true, false, false, true] ∧
    (after (.bsNum1 0x39) (payload .numeric 14)).chars = 1 := by decide +kernel
/-- V12: `AB` is 461. -/
theorem test_bsAn2 : added (.bsAn2 0x41 0x42) .alphanumeric =
    [false, false, true, true, true, false, false, true, true, false, true] := by decide +kernel
/-- V19: a lower-case letter, and another mode's command. -/
theorem test_bsAn2_errors :
    (after (.bsAn2 0x61 0x42) (payload .alphanumeric 14)).err = .invalidMode ∧
    (after (.bsAn2 0x41 0x42) (payload .numeric 14)).err = .sequenceError := by decide +kernel
/-- V12: `A` is `001010`. -/
theorem test_bsAn1 :
    added (.bsAn1 0x41) .alphanumeric = [false, false, true, false, true, false] ∧
    (after (.bsAn1 0x41) (payload .alphanumeric 14)).tail = true := by decide +kernel
/-- V14: 0xC3 verbatim. -/
theorem test_bsByte : added (.bsByte 0xC3) .byte = [true, true, false, false, false, false, true, true] := by decide +kernel
/-- A field that passes the capacity is refused whole (R193). -/
theorem test_bsByte_capacity :
    (after (.bsByte 0x48) (payload .byte 145)).err = .capacityExceeded ∧
    (after (.bsByte 0x48) (payload .byte 144)).bitlen = 152 := by decide +kernel
/-- V18. -/
theorem test_bsKanji : added (.bsKanji 0x93 0x5F) .kanji =
    [false, true, true, false, true, true, false, false, true, true, true, true, true] := by decide +kernel
/-- V18: the edges of the two ranges. -/
theorem test_bsKanji_ranges :
    [(0x81, 0x3F), (0x9F, 0xFD), (0xE0, 0x3F), (0xEB, 0xC0)].all (fun (a, b) =>
      (after (.bsKanji a b) (payload .kanji 14)).err = .invalidShiftJIS) = true ∧
    [(0x81, 0x40), (0x9F, 0xFC), (0xE0, 0x40), (0xEB, 0xBF)].all (fun (a, b) =>
      (after (.bsKanji a b) (payload .kanji 14)).err = .none) = true := by decide +kernel
/-- V16, V17: four zero bits where they fit, else none. -/
theorem test_bsTerm :
    (after .bsTerm { payload .byte 148 with decl := 0 }).bitlen = 152 ∧
    (after .bsTerm { payload .byte 149 with decl := 0 }).bitlen = 149 := by decide +kernel
/-- V19: a character is missing. -/
theorem test_bsTerm_count : statusReg (after .bsTerm (payload .numeric 24)) = 0x0000806F := by decide +kernel
/-- V10: 52 bits are aligned to 56; V16: an aligned stream stays. -/
theorem test_bsAlign :
    (after .bsAlign { payload .byte 52 with phase := .terminated }).bitlen = 56 ∧
    (after .bsAlign { payload .byte 56 with phase := .terminated }).bitlen = 56 := by decide +kernel
/-- R210: the first pad codeword is 0xEC, the stream is filled exactly. -/
theorem test_bsPad :
    (List.range 4).map (after .bsPad { payload .byte 120 with phase := .aligned }).dbyte = [0xFF, 0xFF, 0xFF, 0xFF] ∧
    (List.range 4).map (fun i => (after .bsPad { payload .byte 120 with phase := .aligned }).dbyte (15 + i))
      = [0xEC, 0x11, 0xEC, 0x11] ∧
    (after .bsPad { payload .byte 120 with phase := .aligned }).bitlen = 152 := by decide +kernel
/-- P2: from the 74 bits of the payload to the 13 data codewords (R218). -/
theorem test_bsFinish :
    (List.range 13).map (after .bsFinish { symbol .payload with
      bitbuf := helloPacked.bitbuf.take 74, bitlen := 74, decl := 11, chars := 11 }).dbyte = helloData := by decide +kernel
/-- V19. -/
theorem test_bsFinish_count : (after .bsFinish { payload .numeric 34 with chars := 6 }).err = .invariantViolation := by
  decide +kernel
/-- P2. -/
theorem test_bsGet : (after (.bsGet 12) helloPacked).res = 0xEC ∧ (after (.bsGet 13) helloPacked).err = .operandRange := by
  decide +kernel
/-- The stream starts `0010`. -/
theorem test_bsGetb : (after (.bsGetb 2) helloPacked).res = 1 ∧ (after (.bsGetb 104) helloPacked).err = .operandRange := by
  decide +kernel

/-! Reed-Solomon: V20 to V24, V50. -/

theorem test_rsCfg : rsstatReg (after (.rsCfg 225 30) divider) = 0x00001EE1 ∧ (after (.rsCfg 225 30) divider).rsAt 0 = 0 := by
  decide +kernel
theorem test_rsCfg_errors :
    (after (.rsCfg 3 8) .reset).err = .operandRange ∧ (after (.rsCfg 226 30) .reset).err = .operandRange := by decide +kernel
theorem test_rsData :
    (after (.rsData 0x77) { divider with rsFill := 2 }).rsAt 2 = 0x77 ∧ (after (.rsData 0x77) { divider with rsFill := 2 }).rsFill = 3 := by
  decide +kernel
theorem test_rsData_errors : (after (.rsData 1) .reset).err = .sequenceError ∧ (after (.rsData 1) divider).err = .sequenceError := by
  decide +kernel
/-- V21, step 1. -/
theorem test_rsStep :
    (after .rsStep divider).rsbuf = rsbufOf [0, 0x69, 0x51, 0x7C, 0xC7, 0xA6, 0xBC, 0xE9] ∧ (after .rsStep divider).rsHead = 1 := by
  decide +kernel
/-- V22: a zero leading byte is just shifted. -/
theorem test_rsStep_zero :
    (after .rsStep { divider with rsbuf := rsbufOf [0, 0, 1] }).rsbuf = rsbufOf [0, 0, 1] := by decide +kernel
/-- V21. -/
theorem test_rsRun :
    (after .rsRun divider).rsbuf = rsbufOf [0, 0, 0, 0x7C, 0xEB, 0xA3, 0x19, 0xCB, 0xD3, 0x45] ∧
    rsstatReg (after .rsRun divider) = 0x03030703 := by decide +kernel
/-- V24: not loaded. -/
theorem test_rsRun_unloaded : (after .rsRun { divider with rsFill := 2 }).err = .sequenceError := by decide +kernel
theorem test_rsGet : (after (.rsGet 2) divider).res = 0x56 ∧ (after (.rsGet 10) divider).err = .operandRange := by decide +kernel
theorem test_synClr : (after (.synClr 30) (syndrome [3])).synR = 30 ∧ (after (.synClr 30) (syndrome [3])).synAt 0 = 0 := by decide +kernel
theorem test_synClr_errors : (after (.synClr 0) .reset).err = .operandRange ∧ (after (.synClr 31) .reset).err = .operandRange := by
  decide +kernel
/-- V23: the third byte. -/
theorem test_synIn : (after (.synIn 3) (syndrome [3, 0, 6])).syn.take 4 = [0, 3, 0x1B, 0] := by decide +kernel
theorem test_synIn_unconfigured : (after (.synIn 5) .reset).err = .sequenceError := by decide +kernel
theorem test_synGet : (after (.synGet 2) (syndrome [0, 3, 0x1B])).res = 0x1B ∧ (after (.synGet 3) (syndrome [0, 3, 0x1B])).err = .operandRange := by
  decide +kernel
theorem test_synOk : (after .synOk (syndrome [0, 3, 0x1B])).res = 0 ∧ (after .synOk (syndrome [0, 0])).res = 1 := by decide +kernel
/-- R254: the codewords of the symbol, and the divider as the block left it. -/
theorem test_eccRun :
    (after .eccRun helloPacked).cw = helloData ++ helloParity ∧ rsstatReg (after .eccRun helloPacked) = 0x0D0D0D0D := by
  decide +kernel
theorem test_eccRun_length : (after .eccRun { helloPacked with bitlen := 96 }).err = .invariantViolation := by decide +kernel
theorem test_blkGet : (after (.blkGet 0 12) (helloCoded .coded)).res = 0xEC ∧ (after (.blkGet 0 13) (helloCoded .coded)).res = 0xA8 := by
  decide +kernel
theorem test_blkGet_errors :
    (after (.blkGet 1 0) (helloCoded .coded)).err = .operandRange ∧ (after (.blkGet 0 26) (helloCoded .coded)).err = .operandRange := by
  decide +kernel
theorem test_cwGet : (after (.cwGet 25) (helloCoded .done)).res = 0x10 ∧ (after (.cwGet 26) (helloCoded .coded)).err = .operandRange := by
  decide +kernel

/-! The matrix builder: V30 to V34, R284. -/

theorem test_mxInit : (after .mxInit (helloCoded .coded)).grid = blank ∧ statusReg (after .mxInit (helloCoded .coded)) = 0x00008007 := by
  decide +kernel
/-- V30: 249 modules are left; (7,7) is separator, (0,14) finder (V31). -/
theorem test_mxFinder :
    ((after .mxFinder (drawn .matrix blank)).grid.map (·.count .unset)).sum = 249 ∧
    (after .mxFinder (drawn .matrix blank)).moduleAt 7 7 = .function false ∧
    (after .mxFinder (drawn .matrix blank)).moduleAt 0 14 = .function true := by decide +kernel
/-- V31: dark at even indices. -/
theorem test_mxTiming :
    (after .mxTiming (drawn .matrix blank)).moduleAt 6 8 = .function true ∧
    (after .mxTiming (drawn .matrix blank)).moduleAt 9 6 = .function false ∧
    ((after .mxTiming (drawn .matrix blank)).grid.map (·.count .unset)).sum = 431 := by decide +kernel
/-- V32: version 2 has one pattern, centred at (18, 18). -/
theorem test_mxAlign :
    (after .mxAlign { drawn .matrix [] with ver := 2 }).moduleAt 18 18 = .function true ∧
    (after .mxAlign { drawn .matrix [] with ver := 2 }).moduleAt 17 18 = .function false ∧
    (after .mxAlign { drawn .matrix [] with ver := 2 }).moduleAt 16 20 = .function true := by decide +kernel
/-- V31: the dark module, and format placeholders. -/
theorem test_mxReserve :
    (after .mxReserve (drawn .matrix blank)).moduleAt 13 8 = .function true ∧
    (after .mxReserve (drawn .matrix blank)).moduleAt 8 0 = .function false ∧
    ((after .mxReserve (drawn .matrix blank)).grid.map (·.count .unset)).sum = 410 := by decide +kernel
/-- R284, the picture of version 1. -/
theorem test_mxFunc : pictureOf (after .mxFunc (drawn .matrix blank)).grid = functionPicture := by decide +kernel
/-- V34: before `MX_INIT`. -/
theorem test_mxFunc_early : (after .mxFunc (helloCoded .coded)).err = .sequenceError := by decide +kernel
theorem test_mxGet :
    (after (.mxGet 13 8) (drawn .matrix (gridOf functionPicture))).res = 3 ∧
    (after (.mxGet 21 0) (drawn .matrix (gridOf functionPicture))).err = .operandRange := by decide +kernel
theorem test_mxPix :
    (after (.mxPix 0 7) (drawn .done finishedGrid)).res = 0 ∧ (after (.mxPix 13 8) (drawn .done finishedGrid)).res = 1 := by
  decide +kernel

/-! The placer: V36 to V39, R307. -/

theorem test_plStart : plposReg (after .plStart (drawn .matrix blank)) = 0x00001414 := by decide +kernel
/-- V34: not all function patterns are placed. -/
theorem test_plStart_early : (after .plStart { drawn .matrix blank with fnmask := 0b0111 }).err = .sequenceError := by decide +kernel
/-- V37: the turn at the top edge: (0, 19) is followed by (0, 18), downwards. -/
theorem test_plNext :
    plposReg (after .plNext { drawn .placing blank with plRow := 0, plColpair := 20, plSide := .left }) = 0x00011200 := by decide +kernel
/-- V37: the pair (8, 7) is followed by (5, 4). -/
theorem test_plNext_column_6 :
    (after .plNext { drawn .placing blank with plRow := 0, plColpair := 8, plSide := .left }).plColpair = 5 := by decide +kernel
/-- V36: the third bit of 0x20 is 1. -/
theorem test_plBit :
    (after .plBit { tiny .placing with plRow := 19, plColpair := 20, bitpos := 2 }).moduleAt 19 20 = .data true ∧
    plposReg (after .plBit { tiny .placing with plRow := 19, plColpair := 20, bitpos := 2 }) = 0x00021413 := by decide +kernel
/-- R307: 0, 0, 1, 0, 0, 0, 0, 0 in zig-zag order. -/
theorem test_plRun :
    (after .plRun (tiny .matrix)).grid.drop 16 = List.replicate 1 (List.replicate 21 (.function false))
      ++ [List.replicate 19 (.function false) ++ [.data false, .data false],
        List.replicate 19 (.function false) ++ [.data false, .data false],
        List.replicate 19 (.function false) ++ [.data false, .data true],
        List.replicate 19 (.function false) ++ [.data false, .data false]] ∧
    (after .plRun (tiny .matrix)).phase = .placed := by decide +kernel
/-- V39: a module was stepped over, so the bits do not fit; the state is as before. -/
theorem test_plRun_mismatch :
    after .plRun { tiny .placing with plRow := 20, plColpair := 20, plSide := .left } =
      { tiny .placing with
        plRow := 20, plColpair := 20, plSide := .left, err := .invariantViolation, errcmd := 0x53000000, phase := .error } := by
  decide +kernel

/-! Masks: V40 to V45. -/

/-- V44: mask 6 taken out of the finished data, and put back. -/
theorem test_mkApply :
    (after (.mkApply 6) (drawn .placed placedGrid)).grid = finishedGrid ∧
    appliedCode (after (.mkApply 6) (drawn .placed placedGrid)).applied = 6 := by decide +kernel
theorem test_mkApply_other :
    (after (.mkApply 3) { drawn .placed finishedGrid with applied := some 6 }).err = .sequenceError ∧
    (after (.mkApply 6) { drawn .placed finishedGrid with applied := some 6 }).applied = none := by decide +kernel
/-- V45: `MK_PEN 0` of the selected symbol. -/
theorem test_mkPen : (after (.mkPen 0) (drawn .selected finishedGrid)).res = 314 := by decide +kernel
/-- V41: the parts of single lines. -/
theorem test_mkPen_lines :
    lineN1 (List.replicate 7 true ++ List.replicate 4 false ++ [true] ++ List.replicate 2 false ++ List.replicate 7 true) = 10 ∧
    lineHits false (finderLike ++ List.replicate 4 false ++ List.replicate 10 true) = 1 ∧
    lineHits false (finderLike ++ [false, true, false, false] ++ List.replicate 10 true) = 0 ∧
    lineHits true (finderLike ++ [false, true, false, false] ++ List.replicate 10 true) = 1 ∧
    balancePenalty .exact 199 441 = 0 ∧ balancePenalty .floorPercent 199 441 = 10 := by decide +kernel
/-- V45: the eight scores, the mask selected, and the finished grid (R337, V51). -/
theorem test_mkSelect :
    (after .mkSelect (drawn .placed placedGrid)).trial.toList = [347, 470, 506, 441, 539, 516, 314, 558] ∧
    (after .mkSelect (drawn .placed placedGrid)).bestmask = 6 ∧
    (after .mkSelect (drawn .placed placedGrid)).grid = finishedGrid := by decide +kernel
/-- V44: a mask is in the grid. -/
theorem test_mkSelect_applied : (after .mkSelect { drawn .placed finishedGrid with applied := some 6 }).err = .sequenceError := by
  decide +kernel
/-- V40. -/
theorem test_mkBit :
    (List.range 6).map (maskBit 7 1) = [false, false, false, true, true, true] ∧
    (after (.mkBit 5 2 3) .reset).res = 1 ∧ (after (.mkBit 7 255 255) .reset).res = 1 ∧
    (after (.mkBit 8 0 0) .reset).err = .operandRange := by decide +kernel
/-- V45; V44: not before the selection. -/
theorem test_mkTrial :
    (after (.mkTrial 6) { drawn .selected blank with trial := #v[347, 470, 506, 441, 539, 516, 314, 558] }).res = 314 ∧
    (after (.mkTrial 0) (drawn .placed blank)).err = .sequenceError := by decide +kernel

/-! Metadata: V52 to V54, R361. -/

theorem test_fmtWord : (after (.fmtWord 2 6) .reset).res = 0x2EDA ∧ (after (.fmtWord 0 4) .reset).res = 0x662F := by decide +kernel
theorem test_fmtWord_errors : (after (.fmtWord 4 0) .reset).err = .operandRange ∧ (after (.fmtWord 2 8) .reset).err = .operandRange := by
  decide +kernel
theorem test_verWord : (after (.verWord 7) .reset).res = 0x07C94 ∧ (after (.verWord 40) .reset).res = 0x28C69 := by decide +kernel
theorem test_verWord_errors : (after (.verWord 6) .reset).err = .operandRange ∧ (after (.verWord 41) .reset).err = .operandRange := by
  decide +kernel
/-- R361: format word 0x5412 has bits 1, 4, 10, 12, 14 dark. -/
theorem test_mdFmt :
    let t := after (.mdFmt 0) { drawn .placed blank with ecl := .M }
    formatCopyA.map (fun rc => darkOf (t.moduleAt rc.1 rc.2)) = (List.range 15).map (fun i => [1, 4, 10, 12, 14].contains i) ∧
    (formatCopyB 21).map (fun rc => darkOf (t.moduleAt rc.1 rc.2)) = (List.range 15).map (fun i => [1, 4, 10, 12, 14].contains i) := by
  decide +kernel
/-- R361: the two blocks of version 7. -/
theorem test_mdVer :
    let t := after .mdVer { drawn .selected [] with ver := 7 }
    (List.range 6).map (fun r => (List.range 3).map fun c => darkOf (t.moduleAt r (34 + c))) =
      [[false, false, true], [false, true, false], [false, true, false], [false, true, true], [true, true, true], [false, false, false]] ∧
    (List.range 3).map (fun r => (List.range 6).map fun c => darkOf (t.moduleAt (34 + r) c)) =
      [[false, false, false, false, true, false], [false, true, true, true, true, false], [true, false, false, true, true, false]] := by
  decide +kernel

/-! The assembler (R140, R142) and the canonical program (R143). -/

theorem test_assemble :
    assembleLine none (lineBytes "CFG_SYM 1, Q, AN ; comment") = some [.cfgSym 1 2 1] ∧
    assembleLine (some .alphanumeric) (lineBytes "BS_TEXT \"ABC\"") = some [.bsAn2 0x41 0x42, .bsAn1 0x43] ∧
    assembleLine none (lineBytes "GF_MUL 0x53, 'A'") = some [.gfMul 0x53 0x41] := by decide +kernel

/-- Bytes that are no ASCII: the Shift-JIS pair of V18 in Kanji mode, and the UTF-8 text of V14 in Byte mode. -/
theorem test_assemble_bytes :
    assembleLine (some .kanji) (lineBytes "BS_TEXT \"" ++ [0x93, 0x5F] ++ lineBytes "\"") = some [.bsKanji 0x93 0x5F] ∧
    assembleLine (some .byte) (lineBytes "BS_TEXT \"é\"") = some [.bsByte 0xC3, .bsByte 0xA9] := by decide +kernel

/-- The listing of R143: `BUILD` is one of its sequences, and the export ends with the last module of the symbol. -/
theorem test_canonical :
    IsBuild 208 build ∧ (exportProgram 1).length = 441 ∧ (exportProgram 1).getLast? = some (.mxPix 20 20) :=
  ⟨⟨[.bsFinish], [.mxFunc], [.plRun], .inl rfl, .inl rfl, .inl rfl, rfl⟩, by decide +kernel, by decide +kernel⟩

/-! The tables (R90): in versions 2 and 7 the modules the patterns leave are the codeword bits and the remainder bits. -/

theorem test_rembits_2 : defaultParams.unsetModules 2 = 8 * 44 + 7 := by decide +kernel
theorem test_rembits_7 : defaultParams.unsetModules 7 = 8 * 196 + 0 := by decide +kernel

/-! Witnesses: for each statement of Certificates/Slice0/Obligations.lean that has hypotheses, states and operands that
meet them, clause by clause, at the ends of their ranges. -/

/-- Every command answers the state `after` gives. -/
theorem exec_after (i : Instr) (s : State) : exec i s = .next (after i s) := by
  obtain ⟨t, h⟩ := exec_next i s
  simp [after, h]

/-- A state whose next access of the host is a word written to `CMD`. -/
def withWord (w : Word) (s : State) : State := { s with pending := [cmdWrite w] }

/-- The state after a step that runs a command. -/
theorem step_withWord {w : Word} {i : Instr} (s : State) (h : decode w = .ok i) (hp : s.phase ≠ .error) :
    step (withWord w s) = .next (after i { withWord w s with pending := [] }) := by
  have : step (withWord w s) = exec i { withWord w s with pending := [] } := by
    simp only [step, serveHost, withWord, hostAccess, cmdWrite, supportedAccess, hostWrite, issue]
    simp [h, hp]
  rw [this, exec_after]

theorem witness_DecodeEncode : (Instr.cfgSym 40 3 7).wellFormed = true ∧ decode 0x700003FF#32 = .ok (.fmtWord 3 255) := ⟨rfl, rfl⟩

theorem witness_UnassignedOpcodes :
    State.reset.phase ≠ .error ∧
    [0x03, 0x0F, 0x14, 0x1F, 0x2E, 0x2F, 0x3C, 0x3F, 0x48, 0x4F, 0x54, 0x5F, 0x65, 0x6F, 0x74, 0xFF].all
      (fun op => unassignedOpcode (opField (BitVec.ofNat 32 (op * 2 ^ 24))).toNat) = true := by decide

theorem witness_StepRunsDecoded :
    decode 0x02010201#32 = .ok (.cfgSym 1 2 1) ∧
    (withWord 0x02010201 .reset).pending = cmdWrite 0x02010201#32 :: [] := ⟨rfl, rfl⟩

/-- One word and state for each of the seven clauses. -/
theorem witness_IssueOrder :
    (after (.gfLog 0) .reset).phase = .error ∧ State.reset.phase ≠ .error ∧
    (∀ m, (opField 0x03000000#32, m) ∉ opcodeTable) ∧
    ((opField 0x10010000#32, 0x00FF0000#32) ∈ opcodeTable ∧ 0x10010000#32 &&& 0x00FF0000#32 ≠ 0) ∧
    ((opField 0x1000FFFF#32, 0x00FF0000#32) ∈ opcodeTable ∧ 0x1000FFFF#32 &&& 0x00FF0000#32 = 0) ∧
    (decode 0x40000000#32 = .ok .mxInit ∧ State.reset.phase.code ∉ legalPhases .mxInit) ∧
    (decode 0x02280307#32 = .ok (.cfgSym 40 3 7) ∧ State.reset.phase.code ∈ legalPhases (.cfgSym 40 3 7)) := by
  refine ⟨by decide +kernel, by decide, ?_, by decide, by decide, ⟨rfl, by decide⟩, rfl, by decide⟩
  intro m h
  exact absurd (show (0x03 : Byte) ∈ opcodeTable.map Prod.fst from List.mem_map_of_mem (f := Prod.fst) h) (by decide)

theorem witness_ErrorPhase :
    (after (.gfLog 0) .reset).phase = .error ∧ (0x00000000#32 : Word) ≠ 0x01000000#32 ∧ 0x30 % 4 = 0 ∧
    ({ after (.gfLog 0) .reset with pending := [.read 0x30 4] } : State).pending = .read 0x30 4 :: [] := by
  decide +kernel

theorem witness_RegisterMap :
    (symbol .configured).ver.toNat ≤ 40 ∧ (after (.cfgSym 40 3 7) .reset).ver.toNat = 40 ∧
    (0x34 ≤ 0x34 ∧ 0x34 % 4 = 0) ∧ 0x04 ≠ 0x00 ∧
    (State.reset.phase = .idle ∧ State.reset.err = .none ∧ State.reset.applied = none) ∧
    (let s := { after (.gfLog 0) .reset with applied := some 7 };
      s.phase = .error ∧ s.err = .operandRange ∧ s.applied = some 7) ∧
    (let s := { after (.cfgSym 40 3 7) .reset with plDir := .down, plSide := .left };
      s.ecl = .H ∧ s.mode = .kanji ∧ s.enc = .utf8 ∧ s.plDir = .down ∧ s.plSide = .left) := by decide +kernel

theorem witness_HostAccesses :
    (4 = 4 ∧ 0x30 % 4 = 0) ∧ ((2 ≠ 4 ∨ 0x00 % 4 ≠ 0) ∧ (4 ≠ 4 ∨ 0x32 % 4 ≠ 0)) ∧
    ({ State.reset with pending := [.read 0x30 4] } : State).pending = .read 0x30 4 :: [] ∧
    ({ State.reset with pending := [.write 0x32 4 0] } : State).pending = .write 0x32 4 0 :: [] := by decide

theorem witness_ResetValues :
    ({ divider with pending := [.hardReset] } : State).pending = .hardReset :: [] := rfl

theorem witness_NopSreset :
    (opField 0x00000001#32 = 0x00 ∧ (0x00000001#32 : Word) ≠ 0x00000000#32) ∧
    (opField 0x01800000#32 = 0x01 ∧ (0x01800000#32 : Word) ≠ 0x01000000#32) ∧
    State.reset.phase ≠ .error ∧ (after (.gfLog 0) .reset).phase = .error := by decide +kernel

theorem witness_CfgSym :
    State.reset.phase = .idle ∧ (symbol .configured).phase ≠ .error ∧ (symbol .configured).phase ≠ .idle ∧
    8 ≤ (8 : Byte).toNat ∧ ((0 : Byte).toNat = 0 ∧ 40 < (41 : Byte).toNat) ∧
    (1 ≤ (1 : Byte).toNat ∧ (40 : Byte).toNat ≤ 40 ∧ 3 < (4 : Byte).toNat ∧ (3 : Byte).toNat ≤ 3) := by decide

/-- The third clause: with an arrow, without one, and `PL_BIT` before and at the last bit. -/
theorem witness_PhaseTable :
    (State.reset.phase ≠ .error ∧ State.reset.phase.code ∉ legalPhases .mdVer) ∧
    (after (.gfLog 0) .reset).phase = .error ∧
    ((after (.cfgSym 1 0 0) .reset).phase ≠ .error ∧ arrow (.cfgSym 1 0 0) = some .configured) ∧
    (after (.gfExp 0) .reset).phase ≠ .error ∧ arrow (.gfExp 0) = none ∧
    exec (.cfgSym 1 0 0) .reset = .next (after (.cfgSym 1 0 0) .reset) :=
  ⟨by decide, by decide +kernel, by decide +kernel, by decide +kernel, rfl, exec_after _ _⟩

theorem witness_AllOrNothing :
    exec (.cfgSym 0 0 0) .reset = .next (after (.cfgSym 0 0 0) .reset) ∧ State.reset.phase ≠ .error ∧
    (after (.cfgSym 0 0 0) .reset).phase = .error := ⟨exec_after _ _, by decide, by decide +kernel⟩

theorem witness_ErrInvariant :
    ErrCoherent State.reset ∧
    step (withWord 0x12000000 .reset) = .next (after (.gfLog 0) .reset) ∧
    (after (.gfLog 0) .reset).err ≠ State.reset.err := by
  refine ⟨by simp [ErrCoherent, State.reset], step_withWord .reset rfl (by decide), by decide +kernel⟩

theorem packerCoherent_payload : PackerCoherent (payload .numeric 14) := by
  unfold PackerCoherent State.active
  decide +kernel

theorem witness_UserErrors :
    PackerCoherent (payload .numeric 14) ∧ GridCoherent (payload .numeric 14) ∧
    exec (.bsNum1 0x41) (payload .numeric 14) = .next (after (.bsNum1 0x41) (payload .numeric 14)) ∧
    (payload .numeric 14).phase ≠ .error ∧ (after (.bsNum1 0x41) (payload .numeric 14)).phase = .error ∧
    userFacing (after (.bsNum1 0x41) (payload .numeric 14)).err = true :=
  ⟨packerCoherent_payload, by unfold GridCoherent State.active Square; decide +kernel, exec_after _ _, by decide,
    by decide +kernel, by decide +kernel⟩

theorem witness_WrittenBy :
    exec (.bsByte 0x48) (payload .byte 14) = .next (after (.bsByte 0x48) (payload .byte 14)) ∧
    Instr.bsByte 0x48 ≠ .sreset ∧ (after (.bsByte 0x48) (payload .byte 14)).phase ≠ .error ∧
    isQuery (.bsByte 0x48) = false := ⟨exec_after _ _, by decide, by decide +kernel, rfl⟩

/-- The "HELLO WORLD" symbol after `ECC_RUN` is coherent. -/
theorem coherent_helloCoded : Coherent (helloCoded .coded) where
  params := params_default_blocksWf
  err := by unfold ErrCoherent; decide
  rs := by unfold RsCoherent; decide
  syn := by unfold SynCoherent; decide
  packer := by unfold PackerCoherent State.active; decide +kernel
  code := by unfold CodeCoherent State.active; decide +kernel
  grid := by unfold GridCoherent State.active Square; decide +kernel
  placer := by unfold PlacerCoherent; decide +kernel
  mask := by unfold MaskCoherent; decide

theorem witness_CoherentInvariant :
    Coherent (withWord 0x40000000 (helloCoded .coded)) ∧
    step (withWord 0x40000000 (helloCoded .coded)) = .next (after .mxInit (helloCoded .coded)) :=
  ⟨{ coherent_helloCoded with }, step_withWord (helloCoded .coded) rfl (by decide)⟩

theorem witness_GfMulLaws : gfMul 0 0x57 = 0 ∧ (0x80 : Byte) ≠ 0 := by decide +kernel

theorem witness_GfTables : 254 < 255 ∧ (0xFF : Byte) ≠ 0 ∧ 7 ∈ validR ∧ 30 ∈ validR ∧ 29 < 30 := by decide

theorem witness_GfQueries :
    State.reset.phase ≠ .error ∧ (helloCoded .done).phase ≠ .error ∧
    ((7 : Byte).toNat ∈ [7, 10, 13, 15, 16, 17, 18, 20, 22, 24, 26, 28, 30] ∧ (7 : Byte).toNat ≤ (7 : Byte).toNat) ∧
    (8 : Byte).toNat ∉ [7, 10, 13, 15, 16, 17, 18, 20, 22, 24, 26, 28, 30] ∧ (7 : Byte).toNat < (8 : Byte).toNat := by decide

/-- Numeric, version 1, level L: a 10-bit count, `CAPBITS = 152`; the header of 14 bits fits from bit 138 on, not from
bit 139 on. -/
theorem witness_BsHead :
    let s := { payload .numeric 0 with phase := .configured }
    let u := { s with bitlen := 138 }
    let v := { s with bitlen := 139 }
    (s.phase = .configured ∧ s.capbits ≤ 23648) ∧ countWidth s.mode (versionBand s.ver.toNat) = 10 ∧
    ([1, 9, 10, 26, 27, 40].all fun v => decide (1 ≤ v ∧ v ≤ 40)) = true ∧
    ((1 : BitVec 16) ≠ 0 ∧ 2 ^ 10 ≤ (1024 : BitVec 16).toNat ∧ (1023 : BitVec 16).toNat < 2 ^ 10) ∧
    (u.phase = .configured ∧ u.bitlen.toNat + (bitsMSB 1 4 ++ bitsMSB 1 10).length ≤ u.capbits) ∧
    (v.phase = .configured ∧ v.capbits < v.bitlen.toNat + (bitsMSB 1 4 ++ bitsMSB 1 10).length) := by decide +kernel

/-- What `PayloadRule` assumes, at the edges of the capacity: `n` bits fit after `152 - n`, not after `153 - n`; the
other mode; a short group before. -/
def PayloadStates (m other : Mode) (n : Nat) : Prop :=
  let s := payload m (152 - n)
  let u := payload m (153 - n)
  (s.phase = .payload ∧ s.capbits ≤ 23648 ∧ s.mode = m ∧ s.tail = false ∧ s.bitlen.toNat + n ≤ s.capbits) ∧
  (u.phase = .payload ∧ u.mode = m ∧ u.tail = false ∧ u.capbits < u.bitlen.toNat + n) ∧
  (payload other 14).mode ≠ m ∧ ({ s with tail := true } : State).tail = true

theorem witness_NumericGroups :
    PayloadStates .numeric .byte 10 ∧ PayloadStates .numeric .kanji 7 ∧ PayloadStates .numeric .alphanumeric 4 ∧
    (0x30 ≤ (0x30 : Byte).toNat ∧ (0x39 : Byte).toNat ≤ 0x39) ∧
    ¬(0x30 ≤ (0x2F : Byte).toNat ∧ (0x2F : Byte).toNat ≤ 0x39) ∧
    ¬(0x30 ≤ (0x3A : Byte).toNat ∧ (0x3A : Byte).toNat ≤ 0x39) := by unfold PayloadStates; decide +kernel

/-- Both outcomes of the table: `Z` is 35, `:` is 44, `;` has no value. -/
theorem witness_AlphanumericGroups :
    PayloadStates .alphanumeric .numeric 11 ∧ PayloadStates .alphanumeric .byte 6 ∧
    anval 0x5A = some 35 ∧ anval 0x3A = some 44 ∧ anval 0x3B = none := by unfold PayloadStates; decide +kernel

theorem witness_ByteAndKanji :
    PayloadStates .byte .numeric 8 ∧ PayloadStates .kanji .byte 13 ∧
    [0x8140, 0x9FFC].all (fun v => decide (0x8140 ≤ v ∧ v ≤ 0x9FFC)) = true ∧
    [0xE040, 0xEBBF].all (fun v => decide (0xE040 ≤ v ∧ v ≤ 0xEBBF)) = true ∧
    [0x813F, 0x9FFD, 0xE03F, 0xEBC0].all
      (fun v => decide (¬(0x8140 ≤ v ∧ v ≤ 0x9FFC) ∧ ¬(0xE040 ≤ v ∧ v ≤ 0xEBBF))) = true := by
  unfold PayloadStates; decide +kernel

/-- `BS_TERM` where four bits fit and where they do not; `BS_ALIGN` from the last bit of a byte and from a boundary. -/
theorem witness_TermAndAlign :
    let s := { payload .byte 148 with decl := 0 }
    let u := { payload .byte 149 with decl := 0 }
    let v := { payload .byte 145 with phase := .terminated }
    (s.phase = .payload ∧ s.capbits ≤ 23648 ∧ s.chars = s.decl ∧ s.bitlen.toNat + 4 ≤ s.capbits) ∧
    (u.phase = .payload ∧ u.chars = u.decl ∧ u.capbits < u.bitlen.toNat + 4) ∧
    (payload .byte 14).chars ≠ (payload .byte 14).decl ∧
    (v.phase = .terminated ∧ v.bitlen.toNat ≤ 23648) := by decide +kernel

theorem witness_BsPad :
    let s (n : Nat) := { payload .byte n with phase := .aligned }
    ((s 0).phase = .aligned ∧ (s 0).capbits ≤ 23648) ∧
    ((s 152).bitlen.toNat % 8 = 0 ∧ (s 152).bitlen.toNat ≤ (s 152).capbits) ∧
    (s 153).capbits < (s 153).bitlen.toNat ∧
    ((s 151).bitlen.toNat % 8 ≠ 0 ∧ (s 151).bitlen.toNat < (s 151).capbits) := by decide +kernel

/-- A stream that is full before the terminator, and one with room for it and for padding. -/
theorem witness_BsFinish :
    let s (n : Nat) := { payload .byte n with decl := 0 }
    ((s 152).phase = .payload ∧ (s 152).capbits ≤ 23648 ∧ (s 152).bitlen.toNat ≤ (s 152).capbits ∧
      (s 152).chars = (s 152).decl) ∧
    ((s 12).phase = .payload ∧ (s 12).bitlen.toNat ≤ (s 12).capbits ∧ (s 12).chars = (s 12).decl) ∧
    (payload .byte 12).chars ≠ (payload .byte 12).decl := by decide +kernel

theorem witness_BsGet :
    (1 ≤ (payload .byte 16).phase.code ∧ (helloCoded .done).phase.code ≤ 11) ∧
    (8 * (1 : BitVec 16).toNat + 8 ≤ (payload .byte 16).bitlen.toNat) ∧
    ((payload .byte 15).bitlen.toNat < 8 * (1 : BitVec 16).toNat + 8) ∧
    (15 : BitVec 16).toNat < (payload .byte 16).bitlen.toNat ∧ (payload .byte 16).bitlen.toNat ≤ (16 : BitVec 16).toNat := by
  decide

/-- The hypotheses of `Obligations.PayloadLength`. -/
def PayloadHypotheses (s : State) (n : BitVec 16) (chars : List Byte) (groups : List Instr) (payloadBits : Nat) : Prop :=
  (s.phase = .configured ∧ s.bitlen = 0 ∧ s.capbits ≤ 23648 ∧ n ≠ 0 ∧
    n.toNat < 2 ^ countWidth s.mode (versionBand s.ver.toNat)) ∧
  (s.mode = .numeric → chars.length = n.toNat ∧ (∀ c ∈ chars, 0x30 ≤ c.toNat ∧ c.toNat ≤ 0x39) ∧
    groups = numericGroups chars ∧
    payloadBits = 10 * (n.toNat / 3) + (if n.toNat % 3 = 0 then 0 else if n.toNat % 3 = 1 then 4 else 7)) ∧
  (s.mode = .alphanumeric → chars.length = n.toNat ∧ (∀ c ∈ chars, anval c ≠ none) ∧
    groups = alphanumericGroups chars ∧ payloadBits = 11 * (n.toNat / 2) + 6 * (n.toNat % 2)) ∧
  (s.mode = .byte → chars.length = n.toNat ∧ groups = chars.map .bsByte ∧ payloadBits = 8 * n.toNat) ∧
  (s.mode = .kanji → kanjiGroups chars = some groups ∧ groups.length = n.toNat ∧
    (∀ b1 b0, Instr.bsKanji b1 b0 ∈ groups → ∃ v, kanjiValue b1 b0 = .ok v) ∧ payloadBits = 13 * n.toNat) ∧
  (if s.mode = .byte ∧ s.enc = .utf8 then 12 else 0) + 4 + countWidth s.mode (versionBand s.ver.toNat) + payloadBits
    ≤ s.capbits

/-- "01234567" of V10 is 27 bits, "HELLO WORLD" of P2 is 61, "HELLO" is 40, and one character of V18 is 13. -/
theorem witness_PayloadLength :
    PayloadHypotheses { payload .numeric 0 with phase := .configured } 8
      [0x30, 0x31, 0x32, 0x33, 0x34, 0x35, 0x36, 0x37] [.bsNum3 0x30 0x31 0x32, .bsNum3 0x33 0x34 0x35, .bsNum2 0x36 0x37] 27 ∧
    PayloadHypotheses (symbol .configured) 11 [0x48, 0x45, 0x4C, 0x4C, 0x4F, 0x20, 0x57, 0x4F, 0x52, 0x4C, 0x44]
      [.bsAn2 0x48 0x45, .bsAn2 0x4C 0x4C, .bsAn2 0x4F 0x20, .bsAn2 0x57 0x4F, .bsAn2 0x52 0x4C, .bsAn1 0x44] 61 ∧
    PayloadHypotheses { symbol .configured with mode := .byte, enc := .utf8 } 5 [0x48, 0x45, 0x4C, 0x4C, 0x4F]
      [.bsByte 0x48, .bsByte 0x45, .bsByte 0x4C, .bsByte 0x4C, .bsByte 0x4F] 40 ∧
    PayloadHypotheses { symbol .configured with mode := .kanji } 1 [0x93, 0x5F] [.bsKanji 0x93 0x5F] 13 := by
  have kanji : ∀ b1 b0, Instr.bsKanji b1 b0 ∈ [Instr.bsKanji 0x93 0x5F] → ∃ v, kanjiValue b1 b0 = .ok v := by
    intro b1 b0 h
    simp only [List.mem_singleton, Instr.bsKanji.injEq] at h
    exact ⟨0xD9F, by rw [h.1, h.2]; simp [kanjiValue]⟩
  refine ⟨⟨?_, ?_, ?_, ?_, ?_, ?_⟩, ⟨?_, ?_, ?_, ?_, ?_, ?_⟩, ⟨?_, ?_, ?_, ?_, ?_, ?_⟩,
    ⟨?_, ?_, ?_, ?_, fun _ => ⟨by decide +kernel, by decide, kanji, by decide⟩, ?_⟩⟩
  all_goals first | decide +kernel | (intro h; exact absurd h (by decide))

theorem witness_RsLoad :
    State.reset.phase ≠ .error ∧ State.reset.rsR = 0 ∧
    (1 ≤ (1 : Byte).toNat ∧ (30 : Byte).toNat ∈ validR ∧ (225 : Byte).toNat + (30 : Byte).toNat ≤ 255) ∧
    ¬(1 ≤ (226 : Byte).toNat ∧ (30 : Byte).toNat ∈ validR ∧ (226 : Byte).toNat + (30 : Byte).toNat ≤ 255) ∧
    (divider.rsR ≠ 0 ∧ ¬(divider.rsHead = 0 ∧ divider.rsFill.toNat < divider.rsK.toNat)) ∧
    (let s := { divider with rsFill := 2 }; s.rsR ≠ 0 ∧ s.rsHead = 0 ∧ s.rsFill.toNat < s.rsK.toNat) := by decide

theorem rsCoherent_divider : RsCoherent divider := by unfold RsCoherent; decide +kernel

theorem witness_RsStep :
    (divider.phase ≠ .error ∧ divider.rsR ≠ 0 ∧ divider.rsFill = divider.rsK ∧ divider.rsHead.toNat < divider.rsK.toNat) ∧
    RsCoherent divider ∧ divider.rsAt divider.rsHead.toNat ≠ 0 ∧
    ({ divider with rsbuf := rsbufOf [0, 0, 1] } : State).rsAt 0 = 0 ∧ State.reset.rsR = 0 ∧
    (let s := { divider with rsHead := 3 }; s.rsR ≠ 0 ∧ ¬(s.rsFill = s.rsK ∧ s.rsHead.toNat < s.rsK.toNat)) :=
  ⟨by decide, rsCoherent_divider, by decide, by decide, by decide, by decide⟩

theorem witness_RsRun :
    (divider.phase ≠ .error ∧ divider.rsR ≠ 0 ∧ divider.rsFill = divider.rsK ∧ divider.rsHead.toNat ≤ divider.rsK.toNat) ∧
    RsCoherent divider ∧ ({ divider with rsHead := 3 } : State).rsHead = divider.rsK ∧ State.reset.rsR = 0 ∧
    ({ divider with rsFill := 2 } : State).rsFill ≠ divider.rsK :=
  ⟨by decide, rsCoherent_divider, by decide, by decide, by decide⟩

theorem witness_RsRemainder :
    divider.phase ≠ .error ∧ RsCoherent divider ∧ divider.rsR ≠ 0 ∧ divider.rsFill = divider.rsK ∧
    exec .rsRun divider = .next (after .rsRun divider) :=
  ⟨by decide, rsCoherent_divider, by decide, by decide, exec_after _ _⟩

theorem witness_RsSynGet :
    (State.reset.phase ≠ .error ∧ State.reset.rsR = 0 ∧ State.reset.synR = 0) ∧
    (divider.rsR ≠ 0 ∧ divider.rsK.toNat + divider.rsR.toNat ≤ (10 : Byte).toNat ∧
      (9 : Byte).toNat < divider.rsK.toNat + divider.rsR.toNat) ∧
    ((syndrome [0, 3, 0x1B]).synR ≠ 0 ∧ (syndrome [0, 3, 0x1B]).synR.toNat ≤ (3 : Byte).toNat ∧
      (2 : Byte).toNat < (syndrome [0, 3, 0x1B]).synR.toNat) := by decide

theorem witness_SynCommands :
    (State.reset.phase ≠ .error ∧ State.reset.synR = 0) ∧ (1 ≤ (1 : Byte).toNat ∧ (30 : Byte).toNat ≤ 30) ∧
    (¬(1 ≤ (0 : Byte).toNat ∧ (0 : Byte).toNat ≤ 30) ∧ ¬(1 ≤ (31 : Byte).toNat ∧ (31 : Byte).toNat ≤ 30)) ∧
    ((syndrome [0, 0]).synR ≠ 0 ∧ ∀ j < (syndrome [0, 0]).synR.toNat, (syndrome [0, 0]).synAt j = 0) ∧
    ((syndrome [0, 3]).synR ≠ 0 ∧ ∃ j < (syndrome [0, 3]).synR.toNat, (syndrome [0, 3]).synAt j ≠ 0) := by decide

theorem witness_Syndromes : State.reset.phase ≠ .error ∧ 1 ≤ (1 : Byte).toNat ∧ (30 : Byte).toNat ≤ 30 := by decide

/-- The smallest block and the longest, and a changed byte at the last place. -/
theorem witness_ParityCheck :
    State.reset.phase ≠ .error ∧
    ([0x12].length = (1 : Byte).toNat ∧ 1 ≤ (1 : Byte).toNat ∧ (7 : Byte).toNat ∈ validR ∧ (1 : Byte).toNat + (7 : Byte).toNat ≤ 255) ∧
    ((List.replicate 225 (0x12 : Byte)).length = (225 : Byte).toNat ∧ (30 : Byte).toNat ∈ validR ∧
      (225 : Byte).toNat + (30 : Byte).toNat ≤ 255) ∧
    7 < (1 : Byte).toNat + (7 : Byte).toNat ∧ some (0x77 : Byte) ≠ [(0x12 : Byte)][0]? := by decide +kernel

theorem witness_RsInvariant :
    RsCoherent (withWord 0x32000000 divider) ∧ step (withWord 0x32000000 divider) = .next (after .rsStep divider) :=
  ⟨rsCoherent_divider, step_withWord divider rfl (by decide)⟩

theorem witness_EccRun :
    (helloPacked.phase = .packed ∧ helloPacked.vspec.wf = true ∧ helloPacked.bitlen.toNat = 8 * helloPacked.vspec.dataBytes) ∧
    (0 < helloPacked.vspec.nb ∧ 12 < helloPacked.vspec.blkLen 0 ∧ 12 < helloPacked.vspec.r ∧ helloPacked.vspec.total ≤ 26) ∧
    (let s := { helloPacked with bitlen := 103 }; s.phase = .packed ∧ s.bitlen.toNat ≠ 8 * s.vspec.dataBytes) := by
  decide +kernel

/-- Version 5, level Q has blocks of two lengths. -/
theorem witness_EccRun_two_groups :
    let s := { helloPacked with ver := 5, bitlen := 496 }
    (s.phase = .packed ∧ s.vspec.wf = true ∧ s.bitlen.toNat = 8 * s.vspec.dataBytes) ∧
    (s.vspec.nb = 4 ∧ s.vspec.blkLen 1 = 15 ∧ s.vspec.blkLen 2 = 16) := by decide +kernel

theorem witness_BlkCwGet :
    (6 ≤ (helloCoded .coded).phase.code ∧ (helloCoded .done).phase.code ≤ 11) ∧
    (let x := (helloCoded .coded).vspec;
      ((0 : Byte).toNat < x.nb ∧ x.nb ≤ (1 : Byte).toNat) ∧ (12 : Byte).toNat < x.blkLen 0 ∧
      (x.blkLen 0 ≤ (13 : Byte).toNat ∧ (25 : Byte).toNat < x.blkLen 0 + x.r) ∧ x.blkLen 0 + x.r ≤ (26 : Byte).toNat) ∧
    (25 : BitVec 16).toNat < (helloCoded .coded).cwlen.toNat ∧ (helloCoded .coded).cwlen.toNat ≤ (26 : BitVec 16).toNat := by
  decide +kernel

theorem witness_MxInit :
    (helloCoded .coded).phase = .coded ∧ GridCoherent (helloCoded .coded) ∧ 20 < (helloCoded .coded).size ∧
    ¬(21 < (helloCoded .coded).size ∧ 0 < (helloCoded .coded).size) :=
  ⟨by decide, coherent_helloCoded.grid, by decide, by decide⟩

/-- The corners of the patterns, and modules next to them. -/
theorem witness_FinderAndTiming :
    ((drawn .matrix blank).phase = .matrix ∧ 1 ≤ (drawn .matrix blank).ver.toNat) ∧
    (finderValue 21 0 0 = some true ∧ finderValue 21 7 7 = some false ∧ finderValue 21 20 6 = some true ∧
      finderValue 21 13 0 = some false ∧ finderValue 21 8 0 = none ∧ finderValue 21 20 20 = none) ∧
    (timingValue 21 6 8 = some true ∧ timingValue 21 6 12 = some true ∧ timingValue 21 9 6 = some false ∧
      timingValue 21 6 13 = none ∧ timingValue 21 6 7 = none) := by decide +kernel

/-- Versions 1, 2 and 40; in version 2 the centre (18, 18), a module of its pattern, and one next to it. -/
theorem witness_Alignment :
    let s (v : Nat) := { drawn .matrix [] with ver := BitVec.ofNat 6 v }
    ([1, 2, 40].all fun v => decide ((s v).phase = .matrix) && decide (1 ≤ (s v).ver.toNat) && decide ((s v).ver.toNat ≤ 40)
      && alignListWf (s v).ver.toNat (alignAt (s v).params (s v).ver.toNat)) = true ∧
    (18 ∈ alignAt (s 2).params 2 ∧ alignSkipped (s 2).size 18 18 = false ∧ absDiff 16 18 ≤ 2 ∧ absDiff 20 18 ≤ 2) ∧
    (∀ cr ∈ alignAt (s 2).params 2, ∀ cc ∈ alignAt (s 2).params 2, alignSkipped (s 2).size cr cc = false →
      ¬(absDiff 15 cr ≤ 2 ∧ absDiff 18 cc ≤ 2)) := by decide +kernel

theorem witness_ReserveAndFunc :
    ((drawn .matrix blank).phase = .matrix ∧ 1 ≤ (drawn .matrix blank).ver.toNat) ∧
    (let s := { drawn .matrix [] with ver := 7 };
      s.phase = .matrix ∧ 7 ≤ s.ver.toNat ∧ (5, 36) ∈ versionCells s.size 17 ∧ (36, 5) ∈ versionCells s.size 17) ∧
    ((8, 0) ∈ formatCopyA ++ formatCopyB 21 ∧ (20, 8) ∈ formatCopyA ++ formatCopyB 21 ∧
      (9, 9) ∉ formatCopyA ++ formatCopyB 21 ∧ ¬(9 = 21 - 8 ∧ 9 = 8)) := by decide +kernel

/-- The reverse order, with one command twice. -/
theorem witness_PlacementOrder :
    let l := [Instr.mxReserve, .mxAlign, .mxTiming, .mxReserve, .mxFinder]
    ((drawn .matrix blank).phase = .matrix ∧ 1 ≤ (drawn .matrix blank).ver.toNat ∧ (drawn .matrix blank).ver.toNat ≤ 40 ∧
      (drawn .matrix blank).params = defaultParams) ∧
    (∀ i ∈ l, i ∈ [Instr.mxFinder, .mxTiming, .mxAlign, .mxReserve]) ∧
    ∀ i ∈ [Instr.mxFinder, .mxTiming, .mxAlign, .mxReserve], i ∈ l := by decide +kernel

theorem gridCoherent_finished : GridCoherent (drawn .done finishedGrid) := by
  unfold GridCoherent State.active Square; decide +kernel

theorem witness_MxReads :
    (7 ≤ (drawn .matrix blank).phase.code ∧ (drawn .done finishedGrid).phase.code ≤ 11) ∧
    ((drawn .done finishedGrid).phase = .done ∧ GridCoherent (drawn .done finishedGrid)) ∧
    ((20 : Byte).toNat < (drawn .done finishedGrid).size ∧ (0 : Byte).toNat < (drawn .done finishedGrid).size) ∧
    ¬((21 : Byte).toNat < (drawn .done finishedGrid).size ∧ (0 : Byte).toNat < (drawn .done finishedGrid).size) :=
  ⟨by decide, ⟨rfl, gridCoherent_finished⟩, by decide, by decide⟩

/-- Each of the moves of R301. -/
theorem witness_PlStartNext :
    let s := drawn .placing blank
    ((drawn .matrix blank).phase = .matrix ∧ (drawn .matrix blank).fnmask = 0b1111#4 ∧ (drawn .matrix blank).ver.toNat ≤ 40) ∧
    ({ drawn .matrix blank with fnmask := 0b0111 } : State).fnmask ≠ 0b1111#4 ∧
    (s.phase = .placing ∧ s.plDone = false ∧ ({ s with plDone := true } : State).plDone = true) ∧
    (s.plSide = .right ∧ ({ s with plSide := .left } : State).plSide = .left) ∧
    (s.plDir = .up ∧ 0 < ({ s with plRow := 1 } : State).plRow.toNat) ∧
    (let u := { s with plDir := .down, plRow := 19 }; u.plDir = .down ∧ u.plRow.toNat < u.size - 1) ∧
    ((s.plDir = .up ∧ s.plRow = 0) ∧
      (let u := { s with plDir := .down, plRow := 20 }; u.plDir = .down ∧ u.size - 1 ≤ u.plRow.toNat)) ∧
    ((1 : BitVec 8) = 1 ∧ (8 : BitVec 8) = 8 ∧ (3 : BitVec 8) ≠ 8 ∧ 2 ≤ (3 : BitVec 8).toNat) := by decide

theorem witness_Traversal :
    (1 ≤ (drawn .placing blank).ver.toNat ∧ (drawn .placing blank).ver.toNat ≤ 40) ∧
    (let s := { drawn .placing [] with ver := 40 }; 1 ≤ s.ver.toNat ∧ s.ver.toNat ≤ 40) ∧
    (419 < 21 * (21 - 1) ∧ 20 < 21 ∧ (7 : Nat) ≠ 6) := by decide

/-- The grid of `tiny` with seven of its eight modules filled; the module left is at `(20, 19)`. -/
def nearlyFull : State :=
  { tiny .placing with
    plRow := 20, plColpair := 20, bitpos := 7,
    grid := (List.replicate 17 (List.replicate 21 (.function false)))
      ++ List.replicate 3 (List.replicate 19 (.function false) ++ [.data true, .data true])
      ++ [List.replicate 19 (.function false) ++ [.unset, .data true]] }

/-- No skip, a skip of one module, the last bit with the grid full and not full, and the end of the traversal. -/
theorem witness_PlBit :
    let s := { tiny .placing with plRow := 20, plColpair := 20 }
    (s.phase = .placing ∧ 0 ≤ s.size * s.size ∧ s.plDone = false ∧ s.plModule = .unset ∧ (s.bitpos + 1).toNat ≠ s.slen) ∧
    (let u := nearlyFull;
      u.phase = .placing ∧ 1 ≤ u.size * u.size ∧ (u.plDone = false ∧ u.plModule ≠ .unset) ∧
      ((plNexts 1 u).plDone = false ∧ (plNexts 1 u).plModule = .unset) ∧ (u.bitpos + 1).toNat = u.slen ∧
      ∀ r < u.size, ∀ c < u.size, gridAt (gridSet u.grid 20 19 (.data false)) r c ≠ .unset) ∧
    (let u := { s with bitpos := 7 };
      u.plModule = .unset ∧ (u.bitpos + 1).toNat = u.slen ∧
      ∃ r < u.size, ∃ c < u.size, gridAt (gridSet u.grid 20 20 (.data false)) r c = .unset) ∧
    (let u := { s with plRow := 0, plColpair := 1, plSide := .left };
      (u.plDone = false ∧ u.plModule ≠ .unset) ∧ (plNexts 1 u).plDone = true) := by decide +kernel

/-- A traversal that has already stepped over one of the eight modules. -/
def lateStart : State := { tiny .placing with plRow := 20, plColpair := 20, plSide := .left }

theorem placerCoherent_tiny :
    PlacerCoherent (after .plStart (tiny .matrix)) ∧ PlacerCoherent nearlyFull ∧ PlacerCoherent lateStart := by
  refine ⟨?_, ?_, ?_⟩ <;> (unfold PlacerCoherent; decide +kernel)

/-- From `MATRIX` and from `PLACING`, one bit and the last bit, and a run that ends in an error. -/
theorem witness_PlRun :
    let s := tiny .matrix
    let u := after .plStart s
    (s.phase = .matrix ∧ 1 ≤ s.ver.toNat ∧ s.ver.toNat ≤ 40 ∧ u.phase = .placing ∧ (after .plRun u).phase = .placed) ∧
    ({ s with fnmask := 0b0111 } : State).fnmask ≠ 0b1111#4 ∧
    (u.phase = .placing ∧ (after .plBit u).phase = .placing) ∧
    (nearlyFull.phase = .placing ∧ (after .plBit nearlyFull).phase = .placed) ∧
    (lateStart.phase = .placing ∧ (after .plBit lateStart).phase = .placing ∧
      (after .plRun (after .plBit lateStart)).phase = .error) := by decide +kernel

theorem witness_PlacementFills :
    let s := tiny .matrix
    s.phase = .matrix ∧ s.fnmask = 0b1111#4 ∧ 1 ≤ s.ver.toNat ∧ s.ver.toNat ≤ 40 ∧ 0 < s.slen ∧
    (∀ r < s.size, s.moduleAt r 6 ≠ .unset) ∧ (freeCells s).length = s.slen := by decide +kernel

theorem witness_MaskQueries :
    (State.reset.phase ≠ .error ∧ 7 < (8 : Byte).toNat ∧ (7 : Byte).toNat < 8) ∧
    ((drawn .selected blank).phase = .selected ∧ (drawn .done blank).phase = .done) ∧
    ((255 + 255) % 2 = 0 ∧ ¬(0 + 255) % 2 = 0) := by decide

theorem square_placedGrid : Square 21 placedGrid := by unfold Square; decide +kernel

theorem witness_MkApply :
    let s := drawn .placed placedGrid
    (s.phase = .placed ∧ Square s.size s.grid) ∧ (7 < (8 : Byte).toNat ∧ (7 : Byte).toNat ≤ 7 ∧ s.applied = none) ∧
    (let u := { s with applied := some 7 }; appliedCode u.applied = (7 : Byte).toNat ∧ u.applied ≠ none ∧
      appliedCode u.applied ≠ (6 : Byte).toNat) :=
  ⟨⟨rfl, square_placedGrid⟩, by decide, by decide⟩

theorem witness_PenaltyBounds :
    (21 ≤ 21 ∧ 177 ≤ 177) ∧ ((drawn .placed blank).phase = .placed ∧ (drawn .done blank).phase = .done) ∧
    (4 < (5 : Byte).toNat ∧ (4 : Byte).toNat ≤ 4) ∧
    (1 ≤ (drawn .placed blank).ver.toNat ∧ ({ drawn .placed [] with ver := 40 } : State).ver.toNat ≤ 40) := by decide

theorem witness_MkSelect :
    let s := drawn .placed placedGrid
    s.phase = .placed ∧ 1 ≤ s.ver.toNat ∧ s.ver.toNat ≤ 40 ∧ Square s.size s.grid ∧ s.applied = none ∧
    ({ s with applied := some 0 } : State).applied ≠ none :=
  ⟨rfl, by decide, by decide, square_placedGrid, rfl, by decide⟩

theorem witness_CodeWords :
    State.reset.phase ≠ .error ∧ (3 < (4 : Byte).toNat ∧ (3 : Byte).toNat ≤ 3) ∧ (7 < (8 : Byte).toNat ∧ (7 : Byte).toNat ≤ 7) ∧
    (¬(7 ≤ (6 : Byte).toNat ∧ (6 : Byte).toNat ≤ 40) ∧ ¬(7 ≤ (41 : Byte).toNat ∧ (41 : Byte).toNat ≤ 40)) ∧
    (7 ≤ (7 : Byte).toNat ∧ (40 : Byte).toNat ≤ 40) := by decide

theorem witness_MetadataCells :
    let s := drawn .placed blank
    (1 ≤ s.ver.toNat ∧ s.ver.toNat ≤ 40 ∧ s.phase = .placed ∧ 7 < (8 : Byte).toNat ∧ (7 : Byte).toNat ≤ 7) ∧
    (formatCopyA[0]? = some (0, 8) ∧ (formatCopyB s.size)[14]? = some (20, 8) ∧ (9, 9) ∉ formatCopyA ++ formatCopyB s.size) ∧
    (let u (v : Nat) := { drawn .selected [] with ver := BitVec.ofNat 6 v };
      ((u 6).phase = .selected ∧ (u 6).ver.toNat < 7) ∧ (7 ≤ (u 7).ver.toNat ∧ (u 40).ver.toNat ≤ 40) ∧
      (5, 36) ∈ versionCells (u 7).size 17 ∧ ∀ i < 18, (6, 36) ∉ versionCells (u 7).size i) := by decide +kernel

end Sys2Proof.Tests
end

section
/-! SUPPORT. Postconditions of bodies that raise nothing (`Ensures`), the phase after the shared operations, and the
link from `exec` to bodies: a command that succeeds was legal by the table of R47, and its body gave the new state. -/
namespace Sys2Proof.Machine

/-- Whatever state `x` answers without an error satisfies `P`. -/
def Ensures (x : Except ErrCode State) (P : State → Prop) : Prop := ∀ t, x = .ok t → P t

namespace Ensures

variable {α : Type} {P : State → Prop}

theorem ok {t : State} (h : P t) : Ensures (.ok t) P := fun _ e => Except.ok.inj e ▸ h

theorem error {e : ErrCode} : Ensures (.error e) P := fun _ h => nomatch h

/-- A statement before the rest: the rest may use that the statement succeeded. -/
theorem bind {x : Except ErrCode α} {f : α → Except ErrCode State} (h : ∀ a, x = .ok a → Ensures (f a) P) :
    Ensures (x >>= f) P := fun t e =>
  let ⟨a, hx, hf⟩ := bind_eq_ok.mp e
  h a hx t hf

end Ensures

/-- `append` that succeeds leaves the phase alone (R193). -/
theorem appendField_phase {v n : Nat} {s t : State} (h : appendField v n s = .ok t) : t.phase = s.phase := by
  rcases appendField_cases h with ⟨-, h⟩ | ⟨-, h⟩
  · cases h; rfl
  · cases h

@[simp] theorem rsSteps_phase (n : Nat) (s : State) : (rsSteps n s).phase = s.phase := by
  induction n generalizing s with
  | zero => rfl
  | succ n ih => rw [rsSteps, ih, rsStep_phase]

@[simp] theorem plNexts_phase (n : Nat) (s : State) : (plNexts n s).phase = s.phase := by
  induction n generalizing s with
  | zero => rfl
  | succ n ih => rw [plNexts, ih, plNext_phase]

@[simp] theorem plSkip_phase (fuel : Nat) (s : State) : (plSkip fuel s).phase = s.phase := by
  obtain ⟨n, -, h, -⟩ := plSkip_eq fuel s
  rw [h, plNexts_phase]

@[simp] theorem mxFinderOp_phase (s : State) : (mxFinderOp s).phase = s.phase := by simp [mxFinderOp]
@[simp] theorem mxTimingOp_phase (s : State) : (mxTimingOp s).phase = s.phase := by simp [mxTimingOp]
@[simp] theorem mxAlignOp_phase (s : State) : (mxAlignOp s).phase = s.phase := by simp [mxAlignOp]
@[simp] theorem mxReserveOp_phase (s : State) : (mxReserveOp s).phase = s.phase := by simp [mxReserveOp]
@[simp] theorem mxFuncOp_phase (s : State) : (mxFuncOp s).phase = s.phase := by simp [mxFuncOp]

/-- The phases of `legalIn` are those of the table of R47, a finite check over the commands' columns. -/
theorem mem_legalPhases (i : Instr) (p : Phase) : p.code ∈ legalPhases i ↔ legalIn i p = true := by
  cases i <;> simp only [legalPhases, mnemonic, legalIn]
  all_goals cases p <;> decide

/-- A command that runs outside `ERROR` and does not raise was legal, and its body gave the new state. -/
theorem exec_succeeds {i : Instr} {s t : State} (h : exec i s = .next t) (hs : s.phase ≠ .error)
    (ht : t.phase ≠ .error) : legalIn i s.phase = true ∧ bodyOf i s = .ok t := by
  rcases exec_cases h with ⟨rfl, rfl⟩ | ⟨he, -⟩ | ⟨-, -, rfl⟩ | ⟨-, -, hl, ⟨e, -, rfl⟩ | hb⟩
  · exact ⟨rfl, rfl⟩
  · exact absurd he hs
  · exact absurd rfl ht
  · exact absurd rfl ht
  · exact ⟨hl, hb⟩

end Sys2Proof.Machine
end

section
/-! SUPPORT. The phase after each command's body (R47), and `PhaseTable`. -/
namespace Sys2Proof.Machine

/-! The placer, the one unit whose arrow depends on the state. -/

/-- Placing a bit ends the phase `PLACING` with the last bit of the stream (R305). -/
theorem plPlace_phase {s : State} (hs : s.phase = .placing) :
    Ensures (plPlace s) fun t => t.phase = if t.bitpos.toNat = t.slen then .placed else .placing := by
  unfold plPlace
  extract_lets s1
  have hp : s1.phase = .placing := (plNext_phase _).trans hs
  split
  · next hlast => exact .bind fun _ _ => .ok (if_pos hlast).symm
  · next hmore => exact .ok (hp.trans (if_neg hmore).symm)

theorem plBitBody_phase {s : State} (hs : s.phase = .placing) :
    Ensures (plBitBody s) fun t => t.phase = if t.bitpos.toNat = t.slen then .placed else .placing :=
  .bind fun _ _ => plPlace_phase ((plSkip_phase _ s).trans hs)

/-- The loop of `PL_RUN` leaves only in `PLACED` (R306). -/
theorem plRunLoop_phase (fuel : Nat) {s : State} (hs : s.phase = .placing ∨ s.phase = .placed) :
    Ensures (plRunLoop fuel s) fun t => t.phase = .placed := by
  induction fuel generalizing s with
  | zero =>
    unfold plRunLoop
    split
    · exact .error
    · next hp => exact .ok (hs.resolve_left hp)
  | succ fuel ih =>
    unfold plRunLoop
    split
    · next hp =>
      refine .bind fun s1 h1 => ih ?_
      rw [plBitBody_phase hp s1 h1]
      split
      · exact .inr rfl
      · exact .inl rfl
    · next hp => exact .ok (hs.resolve_left hp)

theorem plStartBody_phase (s : State) : Ensures (plStartBody s) fun t => t.phase = .placing :=
  .bind fun _ _ => .ok rfl

theorem plRunBody_phase {s : State} (hl : legalIn .plRun s.phase = true) :
    Ensures (plRunBody s) fun t => t.phase = .placed := by
  unfold plRunBody
  extract_lets loop
  split
  · exact .bind fun s1 h1 => plRunLoop_phase _ (.inl (plStartBody_phase s s1 h1))
  · next hm =>
    have hp : s.phase = .placing := by simpa [legalIn, hm] using hl
    exact plRunLoop_phase _ (.inl hp)

/-! Every other command. -/

/-- The four zero bits of the terminator go in where they fit; the phase is `TERMINATED` either way (R208). -/
theorem bsTermBody_phase (s : State) : Ensures (bsTermBody s) fun t => t.phase = .terminated := by
  refine .bind fun _ _ => ?_
  split
  · exact .bind fun _ _ => .ok rfl
  · exact .ok rfl

/-- A mask is applied or taken off, or the command raises; the phase stays (R322). -/
theorem mkApplyBody_phase (m : Byte) (s : State) : Ensures (mkApplyBody m s) fun t => t.phase = s.phase := by
  refine .bind fun _ _ => ?_
  split
  · exact .ok rfl
  · split
    · exact .ok rfl
    · exact .error

theorem mkTrialBody_phase (m : Byte) (s : State) : Ensures (mkTrialBody m s) fun t => t.phase = s.phase := by
  unfold mkTrialBody
  split
  · exact .ok rfl
  · exact .error

/-- After a body that raises nothing the phase is that of the command's arrow, or as before where there is none
(R47). The cases stand together by the shape of the body: how many checks it makes and what it ends with. -/
theorem bodyOf_phase {i : Instr} {s : State} (hi : i ≠ .plBit) (hl : legalIn i s.phase = true) :
    Ensures (bodyOf i s) fun t => t.phase = (arrow i).getD s.phase := by
  cases i
  case plBit => exact absurd rfl hi
  case plRun => exact plRunBody_phase hl
  case plStart => exact plStartBody_phase s
  case mkApply m => exact mkApplyBody_phase m s
  case mkTrial m => exact mkTrialBody_phase m s
  -- no check, and one update of the state
  case nop | sreset | bsAlign | mxInit | mdVer => exact .ok rfl
  case mxFinder => exact .ok (mxFinderOp_phase s)
  case mxTiming => exact .ok (mxTimingOp_phase s)
  case mxAlign => exact .ok (mxAlignOp_phase s)
  case mxReserve => exact .ok (mxReserveOp_phase s)
  case mxFunc => exact .ok (mxFuncOp_phase s)
  -- checks, then one update
  case synClr | synIn | mkSelect | mdFmt => exact .bind fun _ _ => .ok rfl
  case cfgSym | rsData | rsStep => exact .bind fun _ _ => .bind fun _ _ => .ok rfl
  case rsCfg => exact .bind fun _ _ => .bind fun _ _ => .bind fun _ _ => .ok rfl
  -- checks, then a value copied into `RES`
  case gfMul | gfExp => exact .ok (setRes_phase _ s)
  case gfLog | bsGet | bsGetb | synOk | cwGet | mxGet | mxPix | mkPen | mkBit | verWord =>
    exact .bind fun _ _ => .ok (setRes_phase _ s)
  case gfGen | rsGet | synGet | blkGet | fmtWord => exact .bind fun _ _ => .bind fun _ _ => .ok (setRes_phase _ s)
  -- checks, then an operation with a loop or a case split of its own
  case rsRun => exact .bind fun _ _ => .bind fun _ _ => .ok (rsSteps_phase _ s)
  case plNext => exact .bind fun _ _ => .ok (plNext_phase s)
  -- payload: the mode, the characters, then `append`
  case bsByte => exact .bind fun _ _ => .bind fun _ ha => .ok (appendField_phase ha :)
  case bsNum1 | bsAn1 | bsKanji =>
    exact .bind fun _ _ => .bind fun _ _ => .bind fun _ ha => .ok (appendField_phase ha :)
  case bsNum2 | bsAn2 =>
    exact .bind fun _ _ => .bind fun _ _ => .bind fun _ _ => .bind fun _ ha => .ok (appendField_phase ha :)
  case bsNum3 =>
    exact .bind fun _ _ => .bind fun _ _ => .bind fun _ _ => .bind fun _ _ => .bind fun _ ha =>
      .ok (appendField_phase ha :)
  -- whatever the statements before did, the last one sets the phase
  case bsTerm => exact bsTermBody_phase s
  case bsPad => exact .bind fun _ _ => .bind fun _ _ => .ok rfl
  case bsFinish => exact .bind fun _ _ => .bind fun _ _ => .bind fun _ _ => .bind fun _ _ => .ok rfl
  case eccRun => exact .bind fun _ _ => .bind fun _ _ => .bind fun _ _ => .ok rfl
  case bsHead =>
    exact .bind fun _ _ => .bind fun _ _ => .bind fun _ _ => .bind fun _ _ => .bind fun _ _ => .ok rfl

/-- Settles O13: legality is `mem_legalPhases`, and the phase afterwards is that of the body that succeeded. -/
theorem phaseTable : Obligations.PhaseTable := by
  refine ⟨fun i s hs hl => exec_of_illegal hs ?_, fun i s hs hi => exec_of_error hi hs, fun i s t h hs ht => ?_⟩
  · rwa [mem_legalPhases, Bool.not_eq_true] at hl
  · obtain ⟨hl, hb⟩ := exec_succeeds h hs ht
    refine ⟨fun q hq => ?_, fun hn hi => ?_, ?_⟩
    · have hi : i ≠ .plBit := by rintro rfl; cases hq
      rw [bodyOf_phase hi hl t hb, hq, Option.getD_some]
    · rw [bodyOf_phase hi hl t hb, hn, Option.getD_none]
    · rintro rfl
      exact plBitBody_phase (by simpa [legalIn] using hl) t hb

end Sys2Proof.Machine
end

section
/-! SUPPORT. Fields of the host's registers (R101): what `bitField` reads from a word put together by `fieldAt`, the
fields of each register, and `RegisterMap`. -/
namespace Sys2Proof.Machine

/-! A field read from a word of fields. -/

theorem bitField_eq (w : Word) (lo n : Nat) : bitField w lo n = w.toNat / 2 ^ lo % 2 ^ n := by
  rw [bitField, BitVec.toNat_ushiftRight, Nat.shiftRight_eq_div_pow]

theorem toNat_fieldAt (lo v : Nat) : (fieldAt lo v).toNat = v * 2 ^ lo % 2 ^ 32 := by
  rw [fieldAt, BitVec.toNat_shiftLeft, BitVec.toNat_ofNat, Nat.shiftLeft_eq, Nat.mod_mul_mod]

@[simp] theorem bitField_or (x y : Word) (lo n : Nat) :
    bitField (x ||| y) lo n = bitField x lo n ||| bitField y lo n := by
  rw [bitField, BitVec.ushiftRight_or_distrib, BitVec.toNat_or, Nat.or_mod_two_pow]; rfl

/-- A field reads back the value put in it. -/
theorem bitField_fieldAt_same {lo n v : Nat} (hn : lo + n ≤ 32) (hv : v < 2 ^ n) :
    bitField (fieldAt lo v) lo n = v := by
  have hpow : 0 < 2 ^ lo := Nat.two_pow_pos lo
  have hfit : v * 2 ^ lo < 2 ^ 32 := calc
    v * 2 ^ lo < 2 ^ n * 2 ^ lo := Nat.mul_lt_mul_of_pos_right hv hpow
    _ = 2 ^ (lo + n) := by rw [Nat.add_comm, Nat.pow_add]
    _ ≤ 2 ^ 32 := Nat.pow_le_pow_right (by decide) hn
  rw [bitField_eq, toNat_fieldAt, Nat.mod_eq_of_lt hfit, Nat.mul_div_cancel _ hpow, Nat.mod_eq_of_lt hv]

/-- Bits above a value are 0. -/
theorem bitField_fieldAt_above {lo v lo' : Nat} (n : Nat) (h : v * 2 ^ lo < 2 ^ lo') :
    bitField (fieldAt lo v) lo' n = 0 := by
  rw [bitField_eq, toNat_fieldAt, Nat.div_eq_of_lt (Nat.lt_of_le_of_lt (Nat.mod_le _ _) h), Nat.zero_mod]

/-- Bits below a value are 0. -/
theorem bitField_fieldAt_below {lo lo' n : Nat} (v : Nat) (h : lo' + n ≤ lo) :
    bitField (fieldAt lo v) lo' n = 0 := by
  rw [bitField_eq, toNat_fieldAt]
  apply Nat.eq_of_testBit_eq
  intro i
  rw [Nat.testBit_mod_two_pow, Nat.testBit_div_two_pow, Nat.testBit_mod_two_pow, Nat.testBit_mul_two_pow,
    Nat.zero_testBit]
  by_cases hi : i < n
  · simp [show ¬lo ≤ i + lo' by omega]
  · simp [hi]

/-- A named value reads as its number, when the field reads as the code and the code agrees with the table. -/
theorem eq_number_of_code {α : Type} {code : α → Nat} {x : α} {field : Nat} (hf : field = code x)
    (table : List (α × Nat)) (ht : ∀ e ∈ table, code e.1 = e.2) :
    ∀ a n, (a, n) ∈ table → x = a → field = n := by
  rintro a n hmem rfl
  exact hf.trans (ht _ hmem)

/-! The widths of the named values. -/

theorem Phase.code_lt (p : Phase) : p.code < 2 ^ 4 := by cases p <;> decide
theorem ErrCode.code_lt (e : ErrCode) : e.code < 2 ^ 4 := by cases e <;> decide
theorem Level.code_lt (l : Level) : l.code < 2 ^ 2 := by cases l <;> decide
theorem Mode.code_lt (m : Mode) : m.code < 2 ^ 2 := by cases m <;> decide
theorem Encoding.code_lt (c : Encoding) : c.code < 2 ^ 1 := by cases c <;> decide
theorem Dir.code_lt (d : Dir) : d.code < 2 ^ 1 := by cases d <;> decide
theorem Side.code_lt (d : Side) : d.code < 2 ^ 1 := by cases d <;> decide

theorem appliedCode_lt (a : Option (BitVec 3)) : appliedCode a < 2 ^ 4 := by
  cases a with
  | none => decide
  | some m => exact Nat.lt_trans m.isLt (by decide)

/-- `SIZE` fits its 8 bits in `SYMCFG`: it is at most 177 (R27). -/
theorem State.size_lt {s : State} (h : s.ver.toNat ≤ 40) : s.size < 2 ^ 8 := by
  rw [State.size]; split <;> omega

/-! The fields of each register: a field reads back its own value, and the other parts of the word read 0 there. -/

theorem statusReg_fields (s : State) :
    bitField (statusReg s) 0 4 = s.phase.code ∧ bitField (statusReg s) 4 4 = s.err.code ∧
    bitField (statusReg s) 8 4 = s.fnmask.toNat ∧ bitField (statusReg s) 12 4 = appliedCode s.applied ∧
    bitField (statusReg s) 16 1 = s.tail.toNat ∧ bitField (statusReg s) 17 15 = 0 := by
  have hphase := s.phase.code_lt
  have herr := s.err.code_lt
  have happlied := appliedCode_lt s.applied
  have htail := s.tail.toNat_lt
  simp (disch := omega) [statusReg, flagCode, bitField_fieldAt_same, bitField_fieldAt_above, bitField_fieldAt_below]

theorem symcfgReg_fields {s : State} (hver : s.ver.toNat ≤ 40) :
    bitField (symcfgReg s) 0 6 = s.ver.toNat ∧ bitField (symcfgReg s) 6 2 = 0 ∧
    bitField (symcfgReg s) 8 2 = s.ecl.code ∧ bitField (symcfgReg s) 10 2 = 0 ∧
    bitField (symcfgReg s) 12 2 = s.mode.code ∧ bitField (symcfgReg s) 14 2 = 0 ∧
    bitField (symcfgReg s) 16 1 = s.enc.code ∧ bitField (symcfgReg s) 17 7 = 0 ∧
    bitField (symcfgReg s) 24 8 = s.size := by
  have hecl := s.ecl.code_lt
  have hmode := s.mode.code_lt
  have henc := s.enc.code_lt
  have hsize := State.size_lt hver
  simp (disch := omega) [symcfgReg, bitField_fieldAt_same, bitField_fieldAt_above, bitField_fieldAt_below]

theorem pkcntReg_fields (s : State) :
    bitField (pkcntReg s) 0 16 = s.decl.toNat ∧ bitField (pkcntReg s) 16 16 = s.chars.toNat := by
  simp (disch := omega) [pkcntReg, bitField_fieldAt_same, bitField_fieldAt_above, bitField_fieldAt_below]

theorem rsstatReg_fields (s : State) :
    bitField (rsstatReg s) 0 8 = s.rsK.toNat ∧ bitField (rsstatReg s) 8 5 = s.rsR.toNat ∧
    bitField (rsstatReg s) 13 3 = 0 ∧ bitField (rsstatReg s) 16 8 = s.rsFill.toNat ∧
    bitField (rsstatReg s) 24 8 = s.rsHead.toNat := by
  simp (disch := omega) [rsstatReg, bitField_fieldAt_same, bitField_fieldAt_above, bitField_fieldAt_below]

theorem plposReg_fields (s : State) :
    bitField (plposReg s) 0 8 = s.plRow.toNat ∧ bitField (plposReg s) 8 8 = s.plColpair.toNat ∧
    bitField (plposReg s) 16 1 = s.plDir.code ∧ bitField (plposReg s) 17 1 = s.plSide.code ∧
    bitField (plposReg s) 18 1 = s.plDone.toNat ∧ bitField (plposReg s) 19 13 = 0 := by
  have hdir := s.plDir.code_lt
  have hside := s.plSide.code_lt
  have hdone := s.plDone.toNat_lt
  simp (disch := omega) [plposReg, flagCode, bitField_fieldAt_same, bitField_fieldAt_above, bitField_fieldAt_below]

theorem plcntReg_fields (s : State) :
    bitField (plcntReg s) 0 15 = s.bitpos.toNat ∧ bitField (plcntReg s) 15 1 = 0 ∧
    bitField (plcntReg s) 16 12 = s.cwlen.toNat ∧ bitField (plcntReg s) 28 4 = 0 := by
  simp (disch := omega) [plcntReg, bitField_fieldAt_same, bitField_fieldAt_above, bitField_fieldAt_below]

/-- A register with one field at bit 0 reads 0 in the rest of its bits. -/
theorem fieldAt_zero_fields {k : Nat} (v : BitVec k) (hk : k ≤ 32) :
    bitField (fieldAt 0 v.toNat) 0 k = v.toNat ∧ bitField (fieldAt 0 v.toNat) k (32 - k) = 0 :=
  ⟨bitField_fieldAt_same (by omega) v.isLt, bitField_fieldAt_above _ (by simpa using v.isLt)⟩

/-- Offsets from `0x34` on are reserved and read 0 (R102). -/
theorem hostRead_reserved {off : Nat} (s : State) (h : 0x34 ≤ off) : hostRead off s = 0 := by
  rw [hostRead]
  iterate 12 rw [if_neg (by omega)]

/-- Settles O8: an offset of the map reads its register, whose fields the lemmas above give; the named values are
those of the fields' codes. -/
theorem registerMap : Obligations.RegisterMap := by
  intro s hver
  have hstatus : hostRead 0x04 s = statusReg s := rfl
  have hsymcfg : hostRead 0x10 s = symcfgReg s := rfl
  have hplpos : hostRead 0x20 s = plposReg s := rfl
  obtain ⟨hphase, herr, -, happlied, -, -⟩ := statusReg_fields s
  obtain ⟨-, -, hecl, -, hmode, -, henc, -, -⟩ := symcfgReg_fields hver
  obtain ⟨-, -, hdir, hside, -, -⟩ := plposReg_fields s
  rw [hstatus, hsymcfg, hplpos]
  refine ⟨statusReg_fields s, ?phases, ?errors, ⟨?notApplied, ?applied⟩, ⟨?levels, ?modes, ?encodings⟩, ⟨?dirs, ?sides⟩,
    ⟨rfl, rfl, rfl⟩, symcfgReg_fields hver, fieldAt_zero_fields s.bitlen (by decide), pkcntReg_fields s,
    rsstatReg_fields s, plposReg_fields s, plcntReg_fields s, fieldAt_zero_fields s.bestmask (by decide),
    fieldAt_zero_fields s.synR (by decide), ⟨rfl, fun _ h _ => hostRead_reserved s h⟩, fun _ => rfl,
    fun _ _ h _ => if_neg h⟩
  case phases => exact eq_number_of_code hphase _ (by decide)
  case errors => exact eq_number_of_code herr _ (by decide)
  case notApplied => intro h; rw [happlied, h]; rfl
  case applied => intro m h; rw [happlied, h]; rfl
  case levels => exact eq_number_of_code hecl _ (by decide)
  case modes => exact eq_number_of_code hmode _ (by decide)
  case encodings => exact eq_number_of_code henc _ (by decide)
  case dirs => exact eq_number_of_code hdir _ (by decide)
  case sides => exact eq_number_of_code hside _ (by decide)

end Sys2Proof.Machine
end

section
/-! SUPPORT. What a word decodes to (R131, R132): a format's reserved bits decide between a refusal and a command
whose word it is, the opcode decides the format; `IssueOrder` and `UnassignedOpcodes`. -/
namespace Sys2Proof.Machine

/-! Words with reserved bits clear. -/

/-- Bits that a mask covers are 0 in a word the mask clears. -/
theorem extractLsb'_eq_zero {w m : Word} {lo n : Nat} (hm : m.extractLsb' lo n = BitVec.allOnes n)
    (h : w &&& m = 0) : w.extractLsb' lo n = 0 := calc
  w.extractLsb' lo n = w.extractLsb' lo n &&& m.extractLsb' lo n := by rw [hm, BitVec.and_allOnes]
  _ = (w &&& m).extractLsb' lo n := BitVec.extractLsb'_and.symm
  _ = 0 := by rw [h]; exact BitVec.extractLsb'_zero

/-- A word with the reserved bits of formats C2 and H clear. -/
theorem fieldsWord_of_formatC2 {w : Word} (h : w &&& 0x00FF0000#32 = 0) :
    fieldsWord (opField w) 0 (f1Field w) (f0Field w) = w := by
  have h2 : f2Field w = 0 := extractLsb'_eq_zero (by decide) h
  simpa [h2] using fieldsWord_fields w

/-- A word with the reserved bits of format C1 clear. -/
theorem fieldsWord_of_formatC1 {w : Word} (h : w &&& 0x00FFFF00#32 = 0) :
    fieldsWord (opField w) 0 0 (f0Field w) = w := by
  have h2 : f2Field w = 0 := extractLsb'_eq_zero (by decide) h
  have h1 : f1Field w = 0 := extractLsb'_eq_zero (by decide) h
  simpa [h2, h1] using fieldsWord_fields w

/-- A word with the reserved bits of format Z clear. -/
theorem fieldsWord_of_formatZ {w : Word} (h : w &&& 0x00FFFFFF#32 = 0) : fieldsWord (opField w) 0 0 0 = w := by
  have h2 : f2Field w = 0 := extractLsb'_eq_zero (by decide) h
  have h1 : f1Field w = 0 := extractLsb'_eq_zero (by decide) h
  have h0 : f0Field w = 0 := extractLsb'_eq_zero (by decide) h
  simpa [h2, h1, h0] using fieldsWord_fields w

/-- The half-word operand is the fields `f1` and `f0` (R130). -/
theorem halfWord_hField (op : Byte) (w : Word) : halfWord op (hField w) = fieldsWord op 0 (f1Field w) (f0Field w) := by
  rw [halfWord_fields, hField, f1Field, f0Field, BitVec.extractLsb'_extractLsb'_of_le (by decide),
    BitVec.extractLsb'_extractLsb'_of_le (by decide)]

/-! The formats. -/

/-- `r` is what the format with the reserved bits `m` decodes from the word `w`, for the command whose words are its
operands after the opcode `op` (R131). -/
inductive FormatDecodes (op : Byte) (w : Word) : Word → Except DecodeReject Instr → Prop
  | z {i} (hi : encode i = fieldsWord op 0 0 0) : FormatDecodes op w 0x00FFFFFF (decodeZ w i)
  | c1 {k} (hk : ∀ a, encode (k a) = fieldsWord op 0 0 a) : FormatDecodes op w 0x00FFFF00 (decodeC1 w k)
  | c2 {k} (hk : ∀ a b, encode (k a b) = fieldsWord op 0 a b) : FormatDecodes op w 0x00FF0000 (decodeC2 w k)
  | c3 {k} (hk : ∀ a b c, encode (k a b c) = fieldsWord op a b c) : FormatDecodes op w 0x00000000 (decodeC3 w k)
  | h {k} (hk : ∀ a, encode (k a) = halfWord op a) : FormatDecodes op w 0x00FF0000 (decodeH w k)
  | cfgSym (hk : ∀ a b c, encode (.cfgSym a b c) = fieldsWord op a b c) :
      FormatDecodes op w 0x000000F8 (decodeCfgSym w)

/-- A reserved bit that is set refuses the word (R137). -/
theorem FormatDecodes.of_reserved {op : Byte} {w m : Word} {r : Except DecodeReject Instr}
    (hf : FormatDecodes op w m r) (hr : w &&& m ≠ 0) : r = .error .reservedBits := by
  cases hf with
  | c3 => exact absurd BitVec.and_zero hr
  | z | c1 | c2 | h | cfgSym => exact if_neg hr

/-- A word with its reserved bits clear is the word of the command it decodes to. -/
theorem FormatDecodes.of_clear {w m : Word} {r : Except DecodeReject Instr}
    (hf : FormatDecodes (opField w) w m r) (hr : w &&& m = 0) : ∃ i, r = .ok i ∧ encode i = w := by
  cases hf with
  | z hi => exact ⟨_, if_pos hr, hi.trans (fieldsWord_of_formatZ hr)⟩
  | c1 hk => exact ⟨_, if_pos hr, (hk _).trans (fieldsWord_of_formatC1 hr)⟩
  | c2 hk => exact ⟨_, if_pos hr, (hk _ _).trans (fieldsWord_of_formatC2 hr)⟩
  | c3 hk => exact ⟨_, rfl, (hk _ _ _).trans (fieldsWord_fields w)⟩
  | h hk => exact ⟨_, if_pos hr, (hk _).trans ((halfWord_hField _ w).trans (fieldsWord_of_formatC2 hr))⟩
  | cfgSym hk => exact ⟨_, if_pos hr, (hk _ _ _).trans (fieldsWord_fields w)⟩

/-! The opcode map. -/

/-- `decode` follows the opcode map: by the format of the opcode's row, or there is no row. -/
theorem decode_cases (w : Word) :
    (∃ m, (opField w, m) ∈ opcodeTable ∧ FormatDecodes (opField w) w m (decode w)) ∨
    ((∀ m, (opField w, m) ∉ opcodeTable) ∧ decode w = .error .unassignedOpcode) := by
  unfold decode
  split
  -- the last arm: every opcode of the map has been refuted
  case h_55 => exact .inr ⟨fun m => by simp_all [opcodeTable], rfl⟩
  -- an arm with a row: the format names the constructor and the reserved bits, and the row is in the map
  all_goals
    next hop =>
    rw [hop]
    refine .inl ⟨_, ?_, by constructor; intros; rfl⟩
    decide

/-- No two rows of the opcode map share an opcode (R135). -/
theorem opcodeTable_nodup : (opcodeTable.map Prod.fst).Nodup := by decide

/-- An opcode has at most one row: equal opcodes stand at equal places. -/
theorem opcodeTable_row_unique {op : Byte} {m m' : Word} (h : (op, m) ∈ opcodeTable) (h' : (op, m') ∈ opcodeTable) :
    m = m' := by
  obtain ⟨i, hi, hm⟩ := List.getElem_of_mem h
  obtain ⟨j, hj, hm'⟩ := List.getElem_of_mem h'
  have hop : (opcodeTable.map Prod.fst)[i]'(by rwa [List.length_map]) =
      (opcodeTable.map Prod.fst)[j]'(by rwa [List.length_map]) := by
    rw [List.getElem_map, List.getElem_map, hm, hm']
  obtain rfl : i = j := (List.getElem_inj opcodeTable_nodup).mp hop
  exact congrArg Prod.snd (hm.symm.trans hm')

/-- The row of a word's opcode gives the format it is decoded by. -/
theorem decode_of_row {w m : Word} (hm : (opField w, m) ∈ opcodeTable) :
    FormatDecodes (opField w) w m (decode w) := by
  rcases decode_cases w with ⟨m', hm', hf⟩ | ⟨hn, -⟩
  · have hrow : m = m' := opcodeTable_row_unique hm hm'
    rwa [hrow]
  · exact absurd hm (hn m)

/-- An opcode without a row is refused, whatever the other bits (R136). -/
theorem decode_of_no_row {w : Word} (hn : ∀ m, (opField w, m) ∉ opcodeTable) :
    decode w = .error .unassignedOpcode := by
  rcases decode_cases w with ⟨m, hm, -⟩ | ⟨-, hd⟩
  · exact absurd hm (hn m)
  · exact hd

/-- A word that decodes is the word of its command. -/
theorem encode_of_decode {w : Word} {i : Instr} (hd : decode w = .ok i) : encode i = w := by
  rcases decode_cases w with ⟨m, -, hf⟩ | ⟨-, he⟩
  · by_cases hr : w &&& m = 0
    · obtain ⟨j, hj, hw⟩ := hf.of_clear hr
      cases hd.symm.trans hj
      exact hw
    · exact nomatch hd.symm.trans (hf.of_reserved hr)
  · exact nomatch hd.symm.trans he

/-! `issue`. -/

theorem issue_of_decode_error {w : Word} {s : State} {e : DecodeReject} (hs : s.phase ≠ .error)
    (hd : decode w = .error e) : issue w s = .next (raise .illegalCommand w s) := by
  rw [issue, if_neg hs, hd]

theorem issue_of_decode_ok {w : Word} {s : State} {i : Instr} (hs : s.phase ≠ .error) (hd : decode w = .ok i) :
    issue w s = exec i s := by
  rw [issue, if_neg hs, hd]

/-- Settles O6: the opcode map says what the word decodes to, `issue` follows that, and out of its phases `exec` raises
with the command's own word, which is the word issued (`encode_of_decode`). -/
theorem issueOrder : Obligations.IssueOrder := by
  refine ⟨opcodeTable_nodup, fun w s => ⟨fun hs hw => ?reset, fun hs hw => ?ignored, fun hs hn => ?unassigned,
    fun hs m hm hr => ?reserved, fun m hm hr => ?decodes, fun i hs hd hl => ?illegal,
    fun i hs hd _ => issue_of_decode_ok hs hd⟩⟩
  case reset => rw [issue, if_pos hs, if_pos hw]
  case ignored => rw [issue, if_pos hs, if_neg hw]
  case unassigned => exact issue_of_decode_error hs (decode_of_no_row hn)
  case reserved => exact issue_of_decode_error hs ((decode_of_row hm).of_reserved hr)
  case decodes =>
    obtain ⟨i, hd, -⟩ := (decode_of_row hm).of_clear hr
    exact ⟨i, hd⟩
  case illegal =>
    rw [mem_legalPhases, Bool.not_eq_true] at hl
    rw [issue_of_decode_ok hs hd, exec_of_illegal hs hl, encode_of_decode hd]

/-- R136's list and the opcode map, opcode by opcode. -/
theorem unassignedOpcode_iff_notMem (op : Byte) :
    unassignedOpcode op.toNat = true ↔ op ∉ opcodeTable.map Prod.fst := by
  revert op; decide +kernel

theorem unassignedOpcode_iff (op : Byte) : unassignedOpcode op.toNat = true ↔ ∀ m, (op, m) ∉ opcodeTable := by
  simp [unassignedOpcode_iff_notMem]

/-- Settles O3: an opcode of the list has no row, so `issue` stops at step 2. -/
theorem unassignedOpcodes : Obligations.UnassignedOpcodes := by
  refine ⟨unassignedOpcode_iff, by decide +kernel, fun w s hs hop => ?_⟩
  exact issue_of_decode_error hs (decode_of_no_row ((unassignedOpcode_iff _).mp hop))

end Sys2Proof.Machine
end

section
/-! SUPPORT. `CFG_SYM` (R162): a set bit of `me[7:3]` lies under the reserved bits of its row, the numbers of the
registers it writes, its two checks; `CfgSym`. -/
namespace Sys2Proof.Machine

/-! The reserved bits. -/

/-- An operand above 7 in `w[7:0]` sets one of the bits `w[7:3]` (R137). -/
theorem fieldsWord_and_reserved_ne_zero (op f2 f1 : Byte) {f0 : Byte} (h : 8 ≤ f0.toNat) :
    fieldsWord op f2 f1 f0 &&& 0x000000F8#32 ≠ 0 := by
  intro hclear
  have hbits : f0.extractLsb' 3 5 = 0 := calc
    f0.extractLsb' 3 5 = (f0Field (fieldsWord op f2 f1 f0)).extractLsb' 3 5 := by rw [f0Field_fieldsWord]
    _ = (fieldsWord op f2 f1 f0).extractLsb' 3 5 := BitVec.extractLsb'_extractLsb'_of_le (by decide)
    _ = 0 := extractLsb'_eq_zero (by decide) hclear
  have hhigh : f0.toNat / 8 % 32 = 0 := by
    simpa [Nat.shiftRight_eq_div_pow] using congrArg BitVec.toNat hbits
  have := f0.isLt
  omega

theorem cfgSym_mem_opcodeTable (ver ecl me : Byte) :
    (opField (encode (.cfgSym ver ecl me)), 0x000000F8#32) ∈ opcodeTable := by
  rw [encode, opField_fieldsWord]; decide

/-- A reserved bit of `me` makes the word no command (R137). -/
theorem decode_cfgSym_of_reserved (ver ecl : Byte) {me : Byte} (h : 8 ≤ me.toNat) :
    decode (encode (.cfgSym ver ecl me)) = .error .reservedBits :=
  (decode_of_row (cfgSym_mem_opcodeTable ver ecl me)).of_reserved (fieldsWord_and_reserved_ne_zero _ _ _ h)

/-! The numbers of the named registers. -/

theorem Level.code_ofCode {n : Nat} (h : n < 4) : (Level.ofCode n).code = n := by
  revert n; decide

theorem Mode.code_ofCode {n : Nat} (h : n < 4) : (Mode.ofCode n).code = n := by
  revert n; decide

/-- The encoding is bit 2 of the operand `me` (R162). -/
theorem encoding_code_of_bit (me : Byte) :
    (if me.getLsbD 2 then Encoding.utf8 else .latin1).code = me.toNat / 4 % 2 := by
  have hbit : me.getLsbD 2 = decide (me.toNat / 4 % 2 = 1) := Nat.testBit_eq_decide_div_mod_eq
  rw [hbit]
  rcases Nat.mod_two_eq_zero_or_one (me.toNat / 4) with h | h <;> rw [h] <;> rfl

/-! The body: its checks in their order, and what it writes. -/

theorem cfgSymBody_of_bad_version {ver : Byte} (ecl me : Byte) (s : State)
    (hv : ¬(1 ≤ ver.toNat ∧ ver.toNat ≤ 40)) : cfgSymBody ver ecl me s = .error .unsupportedVersion := by
  rw [cfgSymBody, require_false hv, error_bind]

theorem cfgSymBody_of_bad_level {ver ecl : Byte} (me : Byte) (s : State)
    (hv : 1 ≤ ver.toNat ∧ ver.toNat ≤ 40) (hl : 3 < ecl.toNat) :
    cfgSymBody ver ecl me s = .error .unsupportedECLevel := by
  rw [cfgSymBody, require_true hv, ok_bind, require_false (Nat.not_le.mpr hl), error_bind]

/-- With both checks passed `VER`, `ECL`, `MODE` and `ENC` take the operands' numbers, `BITLEN` is 0, the phase is
`CONFIGURED`, and nothing else changes (R162). -/
theorem cfgSymBody_configures {ver ecl : Byte} (me : Byte) (s : State)
    (hv : 1 ≤ ver.toNat ∧ ver.toNat ≤ 40) (hl : ecl.toNat ≤ 3) :
    ∃ t, cfgSymBody ver ecl me s = .ok t ∧
      t = { s with ver := t.ver, ecl := t.ecl, mode := t.mode, enc := t.enc, bitlen := 0, phase := .configured } ∧
      t.ver.toNat = ver.toNat ∧ t.ecl.code = ecl.toNat ∧ t.mode.code = me.toNat % 4 ∧
      t.enc.code = me.toNat / 4 % 2 := by
  have hver : (BitVec.ofNat 6 ver.toNat).toNat = ver.toNat := Nat.mod_eq_of_lt (show ver.toNat < 2 ^ 6 by omega)
  rw [cfgSymBody, require_true hv, ok_bind, require_true hl, ok_bind]
  exact ⟨_, rfl, rfl, hver, Level.code_ofCode (by omega), Mode.code_ofCode (Nat.mod_lt _ (by decide)),
    encoding_code_of_bit me⟩

/-- In `IDLE` the command is its body. -/
theorem exec_cfgSym_of_idle (ver ecl me : Byte) {s : State} (h : s.phase = .idle) :
    exec (.cfgSym ver ecl me) s = settle (encode (.cfgSym ver ecl me)) s (cfgSymBody ver ecl me s) :=
  exec_of_legal (by simp) (by simp [h]) (by simp [legalIn, h])

/-- Settles O12: a reserved bit stops the word in `decode`, the phase stops the command before its body, and in `IDLE`
the body checks the version, then the level. -/
theorem cfgSym : Obligations.CfgSym := by
  refine fun ver ecl me s => ⟨fun hs hme => ?reserved, fun hs hp => ?phase, fun hp hv => ?version,
    fun hp hv1 hv40 hl => ?level, fun hp hv1 hv40 hl => ?configures⟩
  case reserved => exact issue_of_decode_error hs (decode_cfgSym_of_reserved ver ecl hme)
  case phase => exact exec_of_illegal hs (by simp [legalIn, hp])
  case version =>
    rw [Raises, exec_cfgSym_of_idle ver ecl me hp, cfgSymBody_of_bad_version ecl me s (by omega)]; rfl
  case level =>
    rw [Raises, exec_cfgSym_of_idle ver ecl me hp, cfgSymBody_of_bad_level me s ⟨hv1, hv40⟩ hl]; rfl
  case configures =>
    obtain ⟨t, hbody, heffect⟩ := cfgSymBody_configures me s ⟨hv1, hv40⟩ hl
    exact ⟨t, by rw [exec_cfgSym_of_idle ver ecl me hp, hbody, settle_ok], heffect⟩

end Sys2Proof.Machine
end

section
/-! SUPPORT. The four GF(256) queries (R172 to R175): a command legal in every phase is its body, what the bodies of
`GF_LOG` and `GF_GEN` check, and `GfQueries`. -/
namespace Sys2Proof.Machine

/-! Commands that R47 allows in "any" phase. -/

/-- Outside `ERROR` a command allowed in any phase is its body (R47). -/
theorem exec_of_legalInAny {i : Instr} {s : State} (hany : ∀ p, legalIn i p = p.isAny) (hs : s.phase ≠ .error) :
    exec i s = settle (encode i) s (bodyOf i s) := by
  have hi : i ≠ .sreset := by rintro rfl; exact absurd (hany .error) (by decide)
  exact exec_of_legal hi hs (by rw [hany]; exact decide_eq_true hs)

theorem exec_of_body_ok {i : Instr} {s t : State} (hany : ∀ p, legalIn i p = p.isAny) (hs : s.phase ≠ .error)
    (hb : bodyOf i s = .ok t) : exec i s = .next t := by
  rw [exec_of_legalInAny hany hs, hb, settle_ok]

theorem raises_of_body_error {i : Instr} {s : State} {e : ErrCode} (hany : ∀ p, legalIn i p = p.isAny)
    (hs : s.phase ≠ .error) (hb : bodyOf i s = .error e) : Raises i s e := by
  rw [Raises, exec_of_legalInAny hany hs, hb]; rfl

/-! The values and the bodies. -/

/-- A word's number zero-extended to 32 bits is the word zero-extended (R8). -/
theorem zext32_toNat {n : Nat} (v : BitVec n) : zext32 v.toNat = v.setWidth 32 := BitVec.ofNat_toNat 32 v

theorem gfLogBody_zero (s : State) : gfLogBody 0 s = .error .operandRange := by
  rw [gfLogBody, require_false (not_not_intro rfl), error_bind]

theorem gfLogBody_of_ne_zero {a : Byte} (ha : a ≠ 0) (s : State) :
    gfLogBody a s = .ok (setRes (zext32 (gfLogOf a)) s) := by
  rw [gfLogBody, require_true ha, ok_bind]

/-- Both checks raise the same error, so their order does not show (R175). -/
theorem gfGenBody_of_bad_operands {r j : Byte} (s : State) (h : ¬(r.toNat ∈ validR ∧ j.toNat ≤ r.toNat)) :
    gfGenBody r j s = .error .operandRange := by
  by_cases hr : r.toNat ∈ validR
  · have hj : ¬j.toNat ≤ r.toNat := fun hj => h ⟨hr, hj⟩
    rw [gfGenBody, require_true hr, ok_bind, require_false hj, error_bind]
  · rw [gfGenBody, require_false hr, error_bind]

theorem gfGenBody_of_valid {r j : Byte} (s : State) (hr : r.toNat ∈ validR) (hj : j.toNat ≤ r.toNat) :
    gfGenBody r j s = .ok (setRes (zext32 (gfGenOf r.toNat j.toNat).toNat) s) := by
  rw [gfGenBody, require_true hr, ok_bind, require_true hj, ok_bind]

/-- Settles O22: each query is its body in every phase but `ERROR`; the bodies write `RES` or raise `OperandRange`. -/
theorem gfQueries : Obligations.GfQueries := by
  refine fun s hs => ⟨fun a b => ?mul, fun e => ?exp, fun a => ⟨fun ha => ?logZero, fun ha => ?log⟩,
    fun r j => ⟨fun hr => ?badCount, fun hj => ?badIndex, fun hr hj => ?gen⟩⟩
  case mul => rw [← zext32_toNat]; exact exec_of_body_ok (fun _ => rfl) hs rfl
  case exp => rw [← zext32_toNat]; exact exec_of_body_ok (fun _ => rfl) hs rfl
  case logZero => subst ha; exact raises_of_body_error (fun _ => rfl) hs (gfLogBody_zero s)
  case log => exact exec_of_body_ok (fun _ => rfl) hs (gfLogBody_of_ne_zero ha s)
  case badCount =>
    exact raises_of_body_error (fun _ => rfl) hs (gfGenBody_of_bad_operands s fun h => hr h.1)
  case badIndex =>
    exact raises_of_body_error (fun _ => rfl) hs (gfGenBody_of_bad_operands s fun h => Nat.not_le.mpr hj h.2)
  case gen => rw [← zext32_toNat]; exact exec_of_body_ok (fun _ => rfl) hs (gfGenBody_of_valid s hr hj)

end Sys2Proof.Machine
end

section
/-! SUPPORT. The packer's operations (R193, R194): appending a list of bits within the capacity, what the stream reads
afterwards, bytes as eight bits, and a command of the packer in its phase. -/
namespace Sys2Proof.Machine

/-! A command in one of its phases. -/

/-- In a phase other than `ERROR` where the table of R47 allows it, a command is its body. -/
theorem exec_of_phase {i : Instr} {s : State} {p : Phase} (hs : s.phase = p) (hl : legalIn i p = true)
    (hp : p ≠ .error) : exec i s = settle (encode i) s (bodyOf i s) := by
  subst hs
  by_cases hi : i = .sreset
  · subst hi; rfl
  · exact exec_of_legal hi hp hl

/-- What the body raises, the command raises. -/
theorem raises_of_phase {i : Instr} {s : State} {p : Phase} {e : ErrCode} (hs : s.phase = p)
    (hl : legalIn i p = true) (hb : bodyOf i s = .error e) (hp : p ≠ .error := by decide) : Raises i s e := by
  rw [Raises, exec_of_phase hs hl hp, hb]; rfl

theorem exec_of_phase_ok {i : Instr} {s t : State} {p : Phase} (hs : s.phase = p) (hl : legalIn i p = true)
    (hb : bodyOf i s = .ok t) (hp : p ≠ .error := by decide) : exec i s = .next t := by
  rw [exec_of_phase hs hl hp, hb, settle_ok]

/-! Appending bits. -/

theorem pushBits_nil (s : State) : pushBits [] s = s := by
  simp [pushBits, writeFrom]

theorem toNat_bitlen_pushBits {bs : List Bool} {s : State} (h : s.bitlen.toNat + bs.length < 2 ^ 15) :
    (pushBits bs s).bitlen.toNat = s.bitlen.toNat + bs.length := by
  rw [pushBits_bitlen, BitVec.toNat_ofNat, Nat.mod_eq_of_lt h]

/-- While `BITLEN` fits its 15 bits, pushing bits appends them (R193). -/
theorem appends_pushBits {bs : List Bool} {s : State} (h : s.bitlen.toNat + bs.length < 2 ^ 15) :
    Appends s (pushBits bs s) bs := by
  refine ⟨toNat_bitlen_pushBits h, fun k => ?_⟩
  rw [bitAt_pushBits]
  split
  · next hk =>
    have hlt : k - s.bitlen.toNat < bs.length := by omega
    simp [readAt, hlt]
  · rfl

/-- Appending a list of bits, refused where it would exceed the capacity: `append(v, n)` of R193 without the number. -/
def appendBits (bs : List Bool) (s : State) : Except ErrCode State :=
  if s.bitlen.toNat + bs.length ≤ s.capbits then .ok (pushBits bs s) else .error .capacityExceeded

theorem appendBits_of_fits {bs : List Bool} {s : State} (h : s.bitlen.toNat + bs.length ≤ s.capbits) :
    appendBits bs s = .ok (pushBits bs s) := if_pos h

theorem appendBits_of_full {bs : List Bool} {s : State} (h : s.capbits < s.bitlen.toNat + bs.length) :
    appendBits bs s = .error .capacityExceeded := if_neg (Nat.not_le.mpr h)

theorem appendField_eq (v n : Nat) (s : State) : appendField v n s = appendBits (bitsMSB v n) s := by
  rw [appendField, require_bind, appendBits, length_bitsMSB]

/-- Two appends in a row are one append of both: the second is refused exactly where the whole is (R193). -/
theorem appendBits_bind (us vs : List Bool) {s : State} (hcap : s.capbits ≤ 23648) :
    (appendBits us s >>= appendBits vs) = appendBits (us ++ vs) s := by
  by_cases hus : s.bitlen.toNat + us.length ≤ s.capbits
  · have hlen : s.bitlen.toNat + us.length < 2 ^ 15 := by omega
    rw [appendBits_of_fits hus, ok_bind, appendBits, appendBits, capbits_pushBits, toNat_bitlen_pushBits hlen,
      pushBits_pushBits us vs s hlen, List.length_append, Nat.add_assoc]
  · have hboth : s.capbits < s.bitlen.toNat + (us ++ vs).length := by rw [List.length_append]; omega
    rw [appendBits_of_full (Nat.lt_of_not_le hus), error_bind, appendBits_of_full hboth]

/-! Bytes and their bits. -/

theorem getD_bitsMSB (v : Nat) {n k : Nat} (h : k < n) (d : Bool) :
    (bitsMSB v n).getD k d = v.testBit (n - 1 - k) := by
  simp [bitsMSB, h]

/-- Reading in the first of two lists of bits put together. -/
theorem getD_append_of_lt {us : List Bool} (vs : List Bool) {k : Nat} (h : k < us.length) (d : Bool) :
    (us ++ vs).getD k d = us.getD k d := by
  rw [List.getD_eq_getElem?_getD, List.getElem?_append_left h, List.getD_eq_getElem?_getD]

theorem getD_append_of_ge {us : List Bool} (vs : List Bool) {k : Nat} (h : us.length ≤ k) (d : Bool) :
    (us ++ vs).getD k d = vs.getD (k - us.length) d := by
  rw [List.getD_eq_getElem?_getD, List.getElem?_append_right h, List.getD_eq_getElem?_getD]

/-- The number whose binary digits are the first `n` bits of `f`, the first of them the highest. -/
def binaryNumber (f : Nat → Bool) : Nat → Nat
  | 0 => 0
  | n + 1 => 2 * binaryNumber f n + (f n).toNat

theorem testBit_binaryNumber (f : Nat → Bool) {n i : Nat} (h : i < n) :
    (binaryNumber f n).testBit i = f (n - 1 - i) := by
  induction n generalizing i with
  | zero => omega
  | succ n ih =>
    have hbit := (f n).toNat_lt
    cases i with
    | zero =>
      have hmod : (2 * binaryNumber f n + (f n).toNat) % 2 = (f n).toNat := by omega
      rw [binaryNumber, Nat.testBit_zero, hmod, Nat.add_sub_cancel, Nat.sub_zero]
      cases f n <;> rfl
    | succ i =>
      have hdiv : (2 * binaryNumber f n + (f n).toNat) / 2 = binaryNumber f n := by omega
      have hindex : n + 1 - 1 - (i + 1) = n - 1 - i := by omega
      rw [binaryNumber, Nat.testBit_succ, hdiv, ih (by omega), hindex]

/-- The sum of R194 is the binary number of the eight bits. -/
theorem byteOfBits_eq_binaryNumber (f : Nat → Bool) : byteOfBits f = BitVec.ofNat 8 (binaryNumber f 8) := by
  have hrange : List.range 8 = [0, 1, 2, 3, 4, 5, 6, 7] := by decide
  rw [byteOfBits, hrange]
  simp only [List.foldl_cons, List.foldl_nil, binaryNumber, Nat.shiftLeft_eq]
  congr 1
  omega

/-- The first bit of a byte is its bit 7 (R106). -/
theorem getLsbD_byteOfBits (f : Nat → Bool) {k : Nat} (h : k < 8) : (byteOfBits f).getLsbD (7 - k) = f k := by
  have hlt : 7 - k < 8 := by omega
  have hindex : 8 - 1 - (7 - k) = k := by omega
  rw [byteOfBits_eq_binaryNumber, BitVec.getLsbD_ofNat, decide_eq_true hlt, Bool.true_and, testBit_binaryNumber f hlt,
    hindex]

/-- Eight bits that are those of a number make the byte of that number. -/
theorem byteOfBits_eq_ofNat {f : Nat → Bool} {v : Nat} (h : ∀ k < 8, f k = v.testBit (7 - k)) :
    byteOfBits f = BitVec.ofNat 8 v := by
  refine BitVec.eq_of_getLsbD_eq fun i hi => ?_
  have hindex : 7 - (7 - i) = i := by omega
  have hbit := getLsbD_byteOfBits f (show 7 - i < 8 by omega)
  rw [h _ (by omega), hindex] at hbit
  rw [hbit, BitVec.getLsbD_ofNat, decide_eq_true hi, Bool.true_and]

end Sys2Proof.Machine
end

section
/-! SUPPORT. The payload commands (R195 to R207): each is one body, the common precondition, the value of its
characters and one append; `NumericGroups`, `AlphanumericGroups`, `ByteAndKanji`. -/
namespace Sys2Proof.Machine

variable {β : Type}

/-! The value of the characters, or the error a bad one raises. -/

/-- A value, or the error `e` where there is none. -/
def orRaise (e : ErrCode) : Option Nat → Except ErrCode Nat
  | some v => .ok v
  | none => .error e

/-- Two values that raise the same error are one value: which of them is missing does not show. -/
theorem orRaise_bind (e : ErrCode) (o : Option Nat) (f : Nat → Option Nat) (g : Nat → Except ErrCode β) :
    (orRaise e o >>= fun a => orRaise e (f a) >>= g) = (orRaise e (o.bind f) >>= g) := by
  cases o <;> rfl

theorem orRaise_map (e : ErrCode) (o : Option Nat) (f : Nat → Nat) (g : Nat → Except ErrCode β) :
    (orRaise e o >>= fun a => g (f a)) = (orRaise e (o.map f) >>= g) := by
  cases o <;> rfl

/-- The number of a digit, none for another byte (R196). -/
def decimalDigit (c : Byte) : Option Nat :=
  if 0x30 ≤ c.toNat ∧ c.toNat ≤ 0x39 then some (c.toNat - 0x30) else none

theorem decimalDigit_of_digit {c : Byte} (h : 0x30 ≤ c.toNat ∧ c.toNat ≤ 0x39) :
    decimalDigit c = some (c.toNat - 0x30) := if_pos h

theorem digit_of_decimalDigit {c : Byte} {d : Nat} (h : decimalDigit c = some d) :
    0x30 ≤ c.toNat ∧ c.toNat ≤ 0x39 :=
  Decidable.byContradiction fun hn => nomatch h.symm.trans (if_neg hn)

theorem decimalDigit_of_not_digit {c : Byte} (h : ¬(0x30 ≤ c.toNat ∧ c.toNat ≤ 0x39)) : decimalDigit c = none :=
  if_neg h

/-- The number of three digits (R201). -/
def threeDigits (c2 c1 c0 : Byte) : Option Nat :=
  (decimalDigit c2).bind fun d2 => (decimalDigit c1).bind fun d1 => (decimalDigit c0).map fun d0 =>
    100 * d2 + 10 * d1 + d0

/-- The number of two digits (R202). -/
def twoDigits (c1 c0 : Byte) : Option Nat :=
  (decimalDigit c1).bind fun d1 => (decimalDigit c0).map fun d0 => 10 * d1 + d0

theorem threeDigits_of_digits {c2 c1 c0 : Byte} (h2 : 0x30 ≤ c2.toNat ∧ c2.toNat ≤ 0x39)
    (h1 : 0x30 ≤ c1.toNat ∧ c1.toNat ≤ 0x39) (h0 : 0x30 ≤ c0.toNat ∧ c0.toNat ≤ 0x39) :
    threeDigits c2 c1 c0 = some (100 * (c2.toNat - 0x30) + 10 * (c1.toNat - 0x30) + (c0.toNat - 0x30)) := by
  rw [threeDigits, decimalDigit_of_digit h2, decimalDigit_of_digit h1, decimalDigit_of_digit h0]; rfl

theorem twoDigits_of_digits {c1 c0 : Byte} (h1 : 0x30 ≤ c1.toNat ∧ c1.toNat ≤ 0x39)
    (h0 : 0x30 ≤ c0.toNat ∧ c0.toNat ≤ 0x39) :
    twoDigits c1 c0 = some (10 * (c1.toNat - 0x30) + (c0.toNat - 0x30)) := by
  rw [twoDigits, decimalDigit_of_digit h1, decimalDigit_of_digit h0]; rfl

/-- Two characters that are not both digits have no number. -/
theorem twoDigits_eq_none {c1 c0 : Byte}
    (h : ¬((0x30 ≤ c1.toNat ∧ c1.toNat ≤ 0x39) ∧ (0x30 ≤ c0.toNat ∧ c0.toNat ≤ 0x39))) : twoDigits c1 c0 = none :=
  Option.bind_eq_none_iff.mpr fun _ h1 => Option.map_eq_none_iff.mpr
    (decimalDigit_of_not_digit fun h0 => h ⟨digit_of_decimalDigit h1, h0⟩)

theorem threeDigits_eq_none {c2 c1 c0 : Byte}
    (h : ¬((0x30 ≤ c2.toNat ∧ c2.toNat ≤ 0x39) ∧ (0x30 ≤ c1.toNat ∧ c1.toNat ≤ 0x39) ∧
      (0x30 ≤ c0.toNat ∧ c0.toNat ≤ 0x39))) : threeDigits c2 c1 c0 = none :=
  Option.bind_eq_none_iff.mpr fun _ h2 => Option.bind_eq_none_iff.mpr fun _ h1 => Option.map_eq_none_iff.mpr
    (decimalDigit_of_not_digit fun h0 => h ⟨digit_of_decimalDigit h2, digit_of_decimalDigit h1, h0⟩)

theorem digit_eq (c : Byte) : digit c = orRaise .invalidMode (decimalDigit c) := by
  unfold digit decimalDigit
  split <;> rfl

theorem anv_eq (c : Byte) : anv c = orRaise .invalidMode (anval c) := by
  unfold anv
  cases anval c <;> rfl

/-! The common body. -/

/-- The common body of the payload commands of mode `m` (R195): the precondition, the value of the characters or
`charErr`, the value's `n` bits, the characters counted, `TAIL` after a short group. -/
def packPayload (m : Mode) (charErr : ErrCode) (value : Option Nat) (n chars : Nat) (short : Bool) (s : State) :
    Except ErrCode State := do
  pay m s
  let v ← orRaise charErr value
  let s1 ← appendField v n s
  .ok { countChars chars s1 with tail := short || s1.tail }

theorem bsNum3Body_eq (c2 c1 c0 : Byte) (s : State) :
    bsNum3Body c2 c1 c0 s = packPayload .numeric .invalidMode (threeDigits c2 c1 c0) 10 3 false s := by
  simp only [bsNum3Body, packPayload, threeDigits, digit_eq, ← orRaise_bind, ← orRaise_map]; rfl

theorem bsNum2Body_eq (c1 c0 : Byte) (s : State) :
    bsNum2Body c1 c0 s = packPayload .numeric .invalidMode (twoDigits c1 c0) 7 2 true s := by
  simp only [bsNum2Body, packPayload, twoDigits, digit_eq, ← orRaise_bind, ← orRaise_map]; rfl

theorem bsNum1Body_eq (c0 : Byte) (s : State) :
    bsNum1Body c0 s = packPayload .numeric .invalidMode (decimalDigit c0) 4 1 true s := by
  rw [bsNum1Body, packPayload, digit_eq]; rfl

theorem bsAn2Body_eq (a b : Byte) (s : State) :
    bsAn2Body a b s = packPayload .alphanumeric .invalidMode
      ((anval a).bind fun x => (anval b).map fun y => x * 45 + y) 11 2 false s := by
  simp only [bsAn2Body, packPayload, anv_eq, ← orRaise_bind, ← orRaise_map]; rfl

theorem bsAn1Body_eq (a : Byte) (s : State) :
    bsAn1Body a s = packPayload .alphanumeric .invalidMode (anval a) 6 1 true s := by
  rw [bsAn1Body, packPayload, anv_eq]; rfl

theorem bsByteBody_eq (b : Byte) (s : State) :
    bsByteBody b s = packPayload .byte .invalidMode (some b.toNat) 8 1 false s := rfl

theorem bsKanjiBody_eq {b1 b0 : Byte} {value : Option Nat} (s : State)
    (h : kanjiValue b1 b0 = orRaise .invalidShiftJIS value) :
    bsKanjiBody b1 b0 s = packPayload .kanji .invalidShiftJIS value 13 1 false s := by
  rw [bsKanjiBody, packPayload, h]; rfl

/-! Its checks in their order, and its effect. -/

theorem pay_of_other_mode {m : Mode} {s : State} (h : s.mode ≠ m) : pay m s = .error .sequenceError := by
  rw [pay, require_false h, error_bind]

theorem pay_of_tail {m : Mode} {s : State} (h : s.tail = true) : pay m s = .error .sequenceError := by
  rw [pay, require_bind, require_false (by simp [h]), ite_self]

theorem pay_ok {m : Mode} {s : State} (hm : s.mode = m) (ht : s.tail = false) : pay m s = .ok () := by
  rw [pay, require_true hm, ok_bind, require_true ht]

theorem packPayload_eq_append {m : Mode} {charErr : ErrCode} {v n chars : Nat} {short : Bool} {s : State}
    (hm : s.mode = m) (ht : s.tail = false) :
    packPayload m charErr (some v) n chars short s = (appendBits (bitsMSB v n) s >>= fun s1 =>
      .ok { countChars chars s1 with tail := short || s1.tail }) := by
  rw [packPayload, pay_ok hm ht, ok_bind, orRaise, ok_bind, appendField_eq]

theorem ofNat_chars_add (s : State) (n : Nat) : BitVec.ofNat 16 (s.chars.toNat + n) = s.chars + BitVec.ofNat 16 n := by
  rw [BitVec.ofNat_add, BitVec.ofNat_toNat, BitVec.setWidth_eq]

/-- A command with the common body follows the rule of the payload commands (R195, R371). -/
theorem payloadRule_of_body {i : Instr} {s : State} {m : Mode} {charErr : ErrCode} {value : Option Nat}
    {n chars : Nat} {short : Bool} (hs : s.phase = .payload) (hcap : s.capbits ≤ 23648)
    (hl : legalIn i .payload = true) (hb : bodyOf i s = packPayload m charErr value n chars short s) :
    PayloadRule i s m charErr value n chars short := by
  have hraise : ∀ e, packPayload m charErr value n chars short s = .error e → Raises i s e :=
    fun e he => raises_of_phase hs hl (hb.trans he)
  refine ⟨fun hm => hraise _ ?mode, fun _ ht => hraise _ ?tail, fun hm ht hv => hraise _ ?character,
    fun v hm ht hv => ⟨fun hfull => hraise _ ?capacity, fun hfit => ?packed⟩⟩
  case mode => rw [packPayload, pay_of_other_mode hm, error_bind]
  case tail => rw [packPayload, pay_of_tail ht, error_bind]
  case character => rw [packPayload, pay_ok hm ht, hv]; rfl
  case capacity =>
    rw [hv, packPayload_eq_append hm ht, appendBits_of_full (by rwa [length_bitsMSB]), error_bind]
  case packed =>
    have hbits : s.bitlen.toNat + (bitsMSB v n).length ≤ s.capbits := by rwa [length_bitsMSB]
    have happ : Appends s (pushBits (bitsMSB v n) s) (bitsMSB v n) := appends_pushBits (by omega)
    refine ⟨{ pushBits (bitsMSB v n) s with chars := s.chars + BitVec.ofNat 16 chars, tail := short },
      exec_of_phase_ok hs hl (hb.trans ?_), rfl, happ⟩
    rw [hv, packPayload_eq_append hm ht, appendBits_of_fits hbits, ok_bind, pushBits_tail, ht, Bool.or_false,
      ← ofNat_chars_add]
    rfl

/-! The obligations. -/

/-- Settles O24: each group is the common body, whose value is there if and only if all its characters are digits. -/
theorem numericGroups_payloadRule : Obligations.NumericGroups := by
  intro s hs hcap isDigit
  refine ⟨fun c2 c1 c0 => ?three, fun c1 c0 => ?two, fun c0 => ?one⟩
  case three =>
    have hrule := payloadRule_of_body hs hcap (i := .bsNum3 c2 c1 c0) rfl (bsNum3Body_eq c2 c1 c0 s)
    exact ⟨fun ⟨h2, h1, h0⟩ => threeDigits_of_digits h2 h1 h0 ▸ hrule, fun h => threeDigits_eq_none h ▸ hrule⟩
  case two =>
    have hrule := payloadRule_of_body hs hcap (i := .bsNum2 c1 c0) rfl (bsNum2Body_eq c1 c0 s)
    exact ⟨fun ⟨h1, h0⟩ => twoDigits_of_digits h1 h0 ▸ hrule, fun h => twoDigits_eq_none h ▸ hrule⟩
  case one =>
    have hrule := payloadRule_of_body hs hcap (i := .bsNum1 c0) rfl (bsNum1Body_eq c0 s)
    exact ⟨fun h0 => decimalDigit_of_digit h0 ▸ hrule, fun h0 => decimalDigit_of_not_digit h0 ▸ hrule⟩

/-- Settles O25: the table is compared byte by byte, and both groups are the common body. -/
theorem alphanumericGroups_payloadRule : Obligations.AlphanumericGroups := by
  refine ⟨by decide +kernel, fun s hs hcap => ⟨fun a b => ?pair, fun a => ?single⟩⟩
  case pair => exact payloadRule_of_body hs hcap rfl (bsAn2Body_eq a b s)
  case single => exact payloadRule_of_body hs hcap rfl (bsAn1Body_eq a s)

/-- Settles O26: a byte's value is always there, that of a Kanji pair in the two ranges of R207. -/
theorem byteAndKanji : Obligations.ByteAndKanji := by
  refine fun s hs hcap => ⟨fun b => payloadRule_of_body hs hcap rfl (bsByteBody_eq b s), fun b1 b0 => ?_⟩
  intro v pack
  have hv : b1.toNat * 256 + b0.toNat = v := by rw [Nat.mul_comm]
  refine ⟨fun hlo hhi => ?low, fun hlo hhi => ?high, fun hlow hhigh => ?outside⟩
  all_goals refine payloadRule_of_body hs hcap rfl (bsKanjiBody_eq s ?_); rw [kanjiValue, hv]
  case low => exact if_pos ⟨hlo, hhi⟩
  case high => exact (if_neg (by omega)).trans (if_pos ⟨hlo, hhi⟩)
  case outside => exact (if_neg hlow).trans (if_neg hhigh)

end Sys2Proof.Machine
end

section
/-! SUPPORT. `BS_HEAD` (R200): the header as one append, the checks before it; `BsHead`. -/
namespace Sys2Proof.Machine

/-- The optional ECI header: `"0111"`, then assignment 26, in Byte mode with UTF-8 only (R200). -/
def eciBits (s : State) : List Bool :=
  if s.mode = .byte ∧ s.enc = .utf8 then bitsMSB 0b0111 4 ++ bitsMSB 26 8 else []

/-- The header `BS_HEAD` appends, with the count in `w` bits (R200). -/
def headerBits (count : BitVec 16) (w : Nat) (s : State) : List Bool :=
  eciBits s ++ bitsMSB (modeIndicator s.mode) 4 ++ bitsMSB count.toNat w

/-- The ECI header and what follows it are one append; without a header there is nothing to check. -/
theorem eciHeader_bind (bs : List Bool) {s : State} (hcap : s.capbits ≤ 23648) :
    (eciHeader s >>= appendBits bs) = appendBits (eciBits s ++ bs) s := by
  unfold eciHeader eciBits
  split
  · simp only [appendField_eq]
    rw [appendBits_bind _ _ hcap, appendBits_bind _ _ hcap]
  · rfl

/-- With a count that its field can hold, the body is one append of the whole header (R200). -/
theorem bsHeadBody_eq_append {count : BitVec 16} {s : State} (hcap : s.capbits ≤ 23648) (hc : count ≠ 0)
    (hw : count.toNat < 2 ^ countWidth s.mode (versionBand s.ver.toNat)) :
    bsHeadBody count s = (appendBits (headerBits count (countWidth s.mode (versionBand s.ver.toNat)) s) s >>= fun t =>
      .ok { t with decl := count, chars := 0, tail := false, phase := .payload }) := by
  rw [headerBits, ← appendBits_bind _ _ hcap, ← eciHeader_bind _ hcap, bsHeadBody, require_true hc, ok_bind]
  dsimp only
  rw [require_true hw, ok_bind]
  simp only [appendField_eq, bind_assoc]

theorem bsHeadBody_of_zero (s : State) : bsHeadBody 0 s = .error .invalidMode := by
  rw [bsHeadBody, require_false (not_not_intro rfl), error_bind]

theorem bsHeadBody_of_wide {count : BitVec 16} {s : State} (hc : count ≠ 0)
    (hw : 2 ^ countWidth s.mode (versionBand s.ver.toNat) ≤ count.toNat) :
    bsHeadBody count s = .error .capacityExceeded := by
  rw [bsHeadBody, require_true hc, ok_bind]
  dsimp only
  rw [require_false (Nat.not_lt.mpr hw), error_bind]

/-- The widths of R81, by the version's band. -/
theorem countWidth_versionBand (v : Nat) :
    countWidth .numeric (versionBand v) = (if v ≤ 9 then 10 else if v ≤ 26 then 12 else 14) ∧
    countWidth .alphanumeric (versionBand v) = (if v ≤ 9 then 9 else if v ≤ 26 then 11 else 13) ∧
    countWidth .byte (versionBand v) = (if v ≤ 9 then 8 else 16) ∧
    countWidth .kanji (versionBand v) = (if v ≤ 9 then 8 else if v ≤ 26 then 10 else 12) := by
  by_cases h9 : v ≤ 9
  · simp [versionBand, countWidth, h9]
  · by_cases h26 : v ≤ 26 <;> simp [versionBand, countWidth, h9, h26]

/-- Settles O23: in `CONFIGURED` the command is its body, two checks and one append of the header. -/
theorem bsHead : Obligations.BsHead := by
  refine ⟨⟨rfl, rfl, rfl, rfl⟩, fun v _ _ => countWidth_versionBand v, fun count s hs hcap => ?_⟩
  intro w eci header
  have hheader : headerBits count w s = header := rfl
  have hraise : ∀ e, bsHeadBody count s = .error e → Raises (.bsHead count) s e :=
    fun e he => raises_of_phase hs rfl he
  refine ⟨fun hc => hraise _ ?zero, fun hc hw => hraise _ ?wide, fun hc hw hfull => hraise _ ?full,
    fun hc hw hfit => ?fits⟩
  case zero => rw [hc, bsHeadBody_of_zero]
  case wide => exact bsHeadBody_of_wide hc hw
  case full => rw [bsHeadBody_eq_append hcap hc hw, hheader, appendBits_of_full hfull, error_bind]
  case fits =>
    have happ : Appends s (pushBits header s) header := appends_pushBits (by omega)
    refine ⟨{ pushBits header s with decl := count, chars := 0, tail := false, phase := .payload },
      exec_of_phase_ok hs rfl ?_, rfl, happ⟩
    exact (bsHeadBody_eq_append hcap hc hw).trans (by rw [hheader, appendBits_of_fits hfit, ok_bind])

end Sys2Proof.Machine
end

section
/-! SUPPORT. The end of the stream (R208 to R211): each finishing command in the case where it raises nothing is one
push of bits, the padding by induction on its codewords; `TermAndAlign`, `BsFinish`. -/
namespace Sys2Proof.Machine

/-! The terminator and the alignment. -/

/-- The terminator: four zero bits where they fit, else none (R208). -/
def termBits (s : State) : List Bool :=
  if s.bitlen.toNat + 4 ≤ s.capbits then [false, false, false, false] else []

theorem bsTermBody_of_count_ne {s : State} (h : s.chars ≠ s.decl) : bsTermBody s = .error .invariantViolation := by
  rw [bsTermBody, require_false h, error_bind]

theorem bsTermBody_of_count_eq {s : State} (h : s.chars = s.decl) :
    bsTermBody s = .ok { pushBits (termBits s) s with phase := .terminated } := by
  have hbits : bitsMSB 0 4 = [false, false, false, false] := by decide
  rw [bsTermBody, require_true h, ok_bind, termBits]
  split
  · next hfit => rw [appendField_eq, hbits, appendBits_of_fits hfit, ok_bind]
  · rw [ok_bind, pushBits_nil]

/-- The terminator stays within the capacity. -/
theorem bitlen_add_termBits_le {s : State} (h : s.bitlen.toNat ≤ s.capbits) :
    s.bitlen.toNat + (termBits s).length ≤ s.capbits := by
  unfold termBits
  split
  · assumption
  · exact h

theorem alignGap_lt (n : Nat) : alignGap n < 8 := Nat.mod_lt _ (by decide)

theorem add_alignGap_mod (n : Nat) : (n + alignGap n) % 8 = 0 := by
  unfold alignGap; omega

/-- Settles O27: both commands are one push of bits, the terminator of four or none, the alignment of the gap. -/
theorem termAndAlign : Obligations.TermAndAlign := by
  refine fun s => ⟨fun hs hcap => ⟨fun hc => ?count, fun hc => ?term⟩, fun hs hlen => ?align⟩
  case count => exact raises_of_phase hs rfl (bsTermBody_of_count_ne hc)
  case term =>
    have hfits : s.bitlen.toNat + (termBits s).length < 2 ^ 15 := by
      have := s.bitlen.isLt
      unfold termBits
      split
      · next hfit => exact Nat.lt_of_le_of_lt hfit (by omega)
      · exact this
    exact ⟨_, exec_of_phase_ok hs rfl (bsTermBody_of_count_eq hc), rfl, (appends_pushBits hfits :)⟩
  case align =>
    have hgap := alignGap_lt s.bitlen.toNat
    have happ : Appends s (pushBits (List.replicate (alignGap s.bitlen.toNat) false) s)
        (List.replicate (alignGap s.bitlen.toNat) false) :=
      appends_pushBits (by rw [List.length_replicate]; omega)
    exact ⟨_, alignGap s.bitlen.toNat, exec_of_phase_ok hs rfl rfl, rfl, hgap, add_alignGap_mod _, happ⟩

/-! The padding. -/

/-- Pad codeword `i` (R210). -/
def padCodeword (i : Nat) : Nat := if i % 2 = 0 then 0xEC else 0x11

/-- The bits of `n` pad codewords, the first of them codeword `i`. -/
def padBits (i n : Nat) : List Bool := (List.range' i n).flatMap fun k => bitsMSB (padCodeword k) 8

theorem padBits_succ (i n : Nat) : padBits i (n + 1) = bitsMSB (padCodeword i) 8 ++ padBits (i + 1) n := by
  rw [padBits, List.range'_succ, List.flatMap_cons, padBits]

theorem length_padBits (i n : Nat) : (padBits i n).length = 8 * n := by
  induction n generalizing i with
  | zero => rfl
  | succ n ih => rw [padBits_succ, List.length_append, length_bitsMSB, ih, Nat.mul_succ, Nat.add_comm]

/-- The bits of the padding, codeword by codeword. -/
theorem getD_padBits (i : Nat) {n j k : Nat} (hj : j < n) (hk : k < 8) (d : Bool) :
    (padBits i n).getD (8 * j + k) d = (padCodeword (i + j)).testBit (7 - k) := by
  induction n generalizing i j with
  | zero => omega
  | succ n ih =>
    have hlen := length_bitsMSB (padCodeword i) 8
    rw [padBits_succ]
    cases j with
    | zero => rw [getD_append_of_lt _ (by omega), Nat.mul_zero, Nat.zero_add, getD_bitsMSB _ hk]; rfl
    | succ j =>
      have hindex : 8 * (j + 1) + k - 8 = 8 * j + k := by omega
      rw [getD_append_of_ge _ (by omega), hlen, hindex, ih (i + 1) (by omega), Nat.add_right_comm i 1 j]; rfl

/-- From `n` codewords below the capacity the loop pushes exactly these `n`, then stops (R210). -/
theorem padLoop_eq {n fuel i : Nat} {s : State} (hcap : s.capbits ≤ 23648) (hlen : s.bitlen.toNat + 8 * n = s.capbits)
    (hfuel : n ≤ fuel) : padLoop fuel i s = .ok (pushBits (padBits i n) s) := by
  induction n generalizing fuel i s with
  | zero =>
    have hnil : pushBits (padBits i 0) s = s := pushBits_nil s
    cases fuel with
    | zero => rw [padLoop, hnil]
    | succ fuel => rw [padLoop, if_neg (by omega), hnil]
  | succ n ih =>
    obtain ⟨fuel, rfl⟩ : ∃ f, fuel = f + 1 := ⟨fuel - 1, by omega⟩
    have hbits := length_bitsMSB (padCodeword i) 8
    have hnext : (pushBits (bitsMSB (padCodeword i) 8) s).bitlen.toNat + 8 * n = s.capbits := by
      rw [toNat_bitlen_pushBits (by omega)]; omega
    rw [padLoop, if_pos (by omega), ← padCodeword, appendField_eq, appendBits_of_fits (by omega), ok_bind,
      ih (s := pushBits _ s) hcap hnext (by omega), pushBits_pushBits _ _ _ (by omega), padBits_succ]

theorem bsPadBody_eq {n : Nat} {s : State} (hcap : s.capbits ≤ 23648) (hlen : s.bitlen.toNat + 8 * n = s.capbits) :
    bsPadBody s = .ok { pushBits (padBits 0 n) s with phase := .packed } := by
  have hfull : (pushBits (padBits 0 n) s).bitlen.toNat = (pushBits (padBits 0 n) s).capbits := by
    rw [toNat_bitlen_pushBits (by rw [length_padBits]; omega), length_padBits, hlen, capbits_pushBits]
  rw [bsPadBody, padLoop_eq hcap hlen (by omega), ok_bind, require_true hfull, ok_bind]

/-! The three in a row. -/

/-- A command that answers a state goes first, the others after it. -/
theorem execAll_cons {i : Instr} {is : List Instr} {s t : State} (h : exec i s = .next t) :
    execAll (i :: is) s = execAll is t := by
  rw [execAll, h]

/-- The zero bits from the end of the payload to the byte boundary after the terminator (R208, R209). -/
def closingBits (s : State) : List Bool :=
  termBits s ++ List.replicate (alignGap (s.bitlen.toNat + (termBits s).length)) false

/-- The bits that fill the stream: to the byte boundary, then pad codewords up to the capacity (R211). -/
def finishBits (s : State) : List Bool :=
  closingBits s ++ padBits 0 ((s.capbits - (s.bitlen.toNat + (closingBits s).length)) / 8)

theorem bitlen_add_termBits (s : State) :
    s.bitlen.toNat + (termBits s).length =
      if s.bitlen.toNat + 4 ≤ s.capbits then s.bitlen.toNat + 4 else s.bitlen.toNat := by
  unfold termBits
  split <;> rfl

theorem eq_false_of_mem_closingBits {s : State} {b : Bool} (h : b ∈ closingBits s) : b = false := by
  rcases List.mem_append.mp h with h | h
  · unfold termBits at h
    split at h <;> simp_all
  · exact List.eq_of_mem_replicate h

theorem getD_closingBits (s : State) (k : Nat) : (closingBits s).getD k false = false := by
  rw [List.getD_eq_getElem?_getD]
  cases h : (closingBits s)[k]? with
  | none => rfl
  | some b => exact eq_false_of_mem_closingBits (List.mem_of_getElem? h)

/-- After the zero bits the stream ends with the byte the terminator ends in. -/
theorem bitlen_add_closingBits (s : State) :
    s.bitlen.toNat + (closingBits s).length = 8 * ((s.bitlen.toNat + (termBits s).length + 7) / 8) := by
  have hboundary := add_alignGap_mod (s.bitlen.toNat + (termBits s).length)
  have hgap := alignGap_lt (s.bitlen.toNat + (termBits s).length)
  rw [closingBits, List.length_append, List.length_replicate]
  omega

/-- The boundary is within the capacity, a number of whole bytes (R86). -/
theorem bitlen_add_closingBits_le {s : State} (h : s.bitlen.toNat ≤ s.capbits) :
    s.bitlen.toNat + (closingBits s).length ≤ s.capbits := by
  have hterm := bitlen_add_termBits_le h
  have hbytes : s.capbits = 8 * s.vspec.dataBytes := rfl
  rw [bitlen_add_closingBits]
  omega

/-- The padding starts and ends at a byte boundary, so its codewords fill the stream exactly. -/
theorem bitlen_add_closingBits_add_pad {s : State} (h : s.bitlen.toNat ≤ s.capbits) :
    s.bitlen.toNat + (closingBits s).length + 8 * ((s.capbits - (s.bitlen.toNat + (closingBits s).length)) / 8)
      = s.capbits := by
  have hle := bitlen_add_closingBits_le h
  have hboundary := bitlen_add_closingBits s
  have hbytes : s.capbits = 8 * s.vspec.dataBytes := rfl
  omega

theorem bitlen_add_finishBits {s : State} (h : s.bitlen.toNat ≤ s.capbits) :
    s.bitlen.toNat + (finishBits s).length = s.capbits := by
  rw [finishBits, List.length_append, length_padBits, ← Nat.add_assoc, bitlen_add_closingBits_add_pad h]

/-- `BS_ALIGN` after `BS_TERM`. -/
theorem bsAlignBody_after_term {s : State} (hcap : s.capbits ≤ 23648) (h : s.bitlen.toNat ≤ s.capbits) :
    bsAlignBody { pushBits (termBits s) s with phase := .terminated } =
      .ok { pushBits (closingBits s) s with phase := .aligned } := by
  have hterm := bitlen_add_termBits_le h
  have hfits : s.bitlen.toNat + (termBits s).length < 2 ^ 15 := by omega
  rw [closingBits, ← pushBits_pushBits _ _ _ hfits, ← toNat_bitlen_pushBits hfits]
  rfl

/-- `BS_PAD` after both. -/
theorem bsPadBody_after_align {s : State} (hcap : s.capbits ≤ 23648) (h : s.bitlen.toNat ≤ s.capbits) :
    bsPadBody { pushBits (closingBits s) s with phase := .aligned } =
      .ok { pushBits (finishBits s) s with phase := .packed } := by
  have hle := bitlen_add_closingBits_le h
  have hfits : s.bitlen.toNat + (closingBits s).length < 2 ^ 15 := by omega
  have hpad := bitlen_add_closingBits_add_pad h
  rw [← toNat_bitlen_pushBits hfits] at hpad
  rw [finishBits, ← pushBits_pushBits _ _ _ hfits, ← toNat_bitlen_pushBits hfits]
  exact bsPadBody_eq (s := { pushBits (closingBits s) s with phase := .aligned }) hcap hpad

theorem bsFinishBody_of_count_eq {s : State} (hcap : s.capbits ≤ 23648) (h : s.bitlen.toNat ≤ s.capbits)
    (hc : s.chars = s.decl) : bsFinishBody s = .ok { pushBits (finishBits s) s with phase := .packed } := by
  rw [bsFinishBody, bsTermBody_of_count_eq hc, ok_bind, bsAlignBody_after_term hcap h, ok_bind,
    bsPadBody_after_align hcap h]

/-- The three commands one after the other end in the same state. -/
theorem execAll_term_align_pad {s : State} (hs : s.phase = .payload) (hcap : s.capbits ≤ 23648)
    (h : s.bitlen.toNat ≤ s.capbits) (hc : s.chars = s.decl) :
    execAll [.bsTerm, .bsAlign, .bsPad] s = .next { pushBits (finishBits s) s with phase := .packed } := by
  have hterm := exec_of_phase_ok (i := .bsTerm) hs rfl (bsTermBody_of_count_eq hc)
  have halign := exec_of_phase_ok (i := .bsAlign) (p := .terminated) rfl rfl (bsAlignBody_after_term hcap h)
  have hpad := exec_of_phase_ok (i := .bsPad) (p := .aligned) rfl rfl (bsPadBody_after_align hcap h)
  rw [execAll_cons hterm, execAll_cons halign, execAll_cons hpad, execAll]

/-- Up to the byte boundary the appended bits are 0. -/
theorem bitAt_of_appends_finishBits {s t : State} (happ : Appends s t (finishBits s)) {k : Nat}
    (hlo : s.bitlen.toNat ≤ k) (hhi : k < s.bitlen.toNat + (closingBits s).length) : t.bitAt k = false := by
  have hlen : (closingBits s).length ≤ (finishBits s).length := by rw [finishBits, List.length_append]; omega
  rw [happ.2 k, if_pos (by omega), finishBits, getD_append_of_lt _ (by omega), getD_closingBits]

/-- From the byte boundary on the data codewords are the pad codewords. -/
theorem dbyte_of_appends_finishBits {s t : State} (h : s.bitlen.toNat ≤ s.capbits) (happ : Appends s t (finishBits s))
    {first j : Nat} (hfirst : s.bitlen.toNat + (closingBits s).length = 8 * first) (hj : 8 * (first + j) < s.capbits) :
    t.dbyte (first + j) = BitVec.ofNat 8 (padCodeword j) := by
  have hfull := bitlen_add_finishBits h
  have hbytes : s.capbits = 8 * s.vspec.dataBytes := rfl
  refine byteOfBits_eq_ofNat fun k hk => ?_
  have hindex : 8 * (first + j) + k - s.bitlen.toNat - (closingBits s).length = 8 * j + k := by omega
  rw [happ.2, if_pos (by omega), finishBits, getD_append_of_ge _ (by omega), hindex,
    getD_padBits 0 (by omega) hk, Nat.zero_add]

/-- Settles O29: the command and the three in a row push the same bits, zeros to the boundary and then codewords. -/
theorem bsFinish : Obligations.BsFinish := by
  refine fun s hs hcap hle => ⟨fun hc => ?count, fun hc => ?finished⟩
  case count =>
    exact raises_of_phase hs rfl (by rw [bodyOf, bsFinishBody, bsTermBody_of_count_ne hc, error_bind])
  case finished =>
    have hfull := bitlen_add_finishBits hle
    have happ : Appends s { pushBits (finishBits s) s with phase := .packed } (finishBits s) :=
      (appends_pushBits (by omega) : Appends s (pushBits (finishBits s) s) (finishBits s))
    refine ⟨_, exec_of_phase_ok hs rfl (bsFinishBody_of_count_eq hcap hle hc),
      execAll_term_align_pad hs hcap hle hc, rfl, happ.1.trans hfull, fun k hk => ?_, ?_⟩
    · exact (happ.2 k).trans (if_neg (by omega))
    · intro finish first
      have hfirst : s.bitlen.toNat + (closingBits s).length = 8 * first := by
        rw [bitlen_add_closingBits, bitlen_add_termBits]
      refine ⟨fun k hlo hhi => bitAt_of_appends_finishBits happ hlo (hfirst ▸ hhi), fun j hj => ?_⟩
      rw [dbyte_of_appends_finishBits hle happ hfirst hj, padCodeword]
      split <;> rfl

end Sys2Proof.Machine
end

section
/-! SUPPORT. The stream read back (R212, R213): `BsGet`. -/
namespace Sys2Proof.Machine

theorem legalIn_bsGet {p : Phase} (h1 : 1 ≤ p.code) (h11 : p.code ≤ 11) (i : BitVec 16) :
    legalIn (.bsGet i) p = true ∧ legalIn (.bsGetb i) p = true := by
  have hwithin : p.within .configured .done = true :=
    Bool.and_eq_true_iff.mpr ⟨decide_eq_true h1, decide_eq_true h11⟩
  exact ⟨hwithin, hwithin⟩

theorem bsGetBody_of_past {i : BitVec 16} {s : State} (h : s.bitlen.toNat < 8 * i.toNat + 8) :
    bsGetBody i s = .error .operandRange := by
  rw [bsGetBody, require_false (Nat.not_le.mpr h), error_bind]

theorem bsGetBody_of_within {i : BitVec 16} {s : State} (h : 8 * i.toNat + 8 ≤ s.bitlen.toNat) :
    bsGetBody i s = .ok (setRes ((s.dbyte i.toNat).setWidth 32) s) := by
  rw [bsGetBody, require_true h, ok_bind, zext32_toNat]

theorem bsGetbBody_of_past {i : BitVec 16} {s : State} (h : s.bitlen.toNat ≤ i.toNat) :
    bsGetbBody i s = .error .operandRange := by
  rw [bsGetbBody, require_false (Nat.not_lt.mpr h), error_bind]

theorem bsGetbBody_of_within {i : BitVec 16} {s : State} (h : i.toNat < s.bitlen.toNat) :
    bsGetbBody i s = .ok (setRes (if s.bitAt i.toNat then 1 else 0) s) := by
  rw [bsGetbBody, require_true h, ok_bind]
  cases s.bitAt i.toNat <;> rfl

/-- Settles O30: a byte of the stream has the stream's bit `8*i + k` as its bit `7 - k`. -/
theorem bsGet : Obligations.BsGet := by
  intro i s h1 h11
  obtain ⟨hbyte, hbit⟩ := legalIn_bsGet h1 h11 i
  have hp : s.phase ≠ .error := fun he => absurd h11 (by rw [he]; decide)
  refine ⟨fun h => ?bytePast, fun h => ?byte, fun h => ?bitPast, fun h => ?bit⟩
  case bytePast => exact raises_of_phase rfl hbyte (bsGetBody_of_past h) hp
  case byte =>
    exact ⟨s.dbyte i.toNat, exec_of_phase_ok rfl hbyte (bsGetBody_of_within h) hp, fun k hk => getLsbD_byteOfBits _ hk⟩
  case bitPast => exact raises_of_phase rfl hbit (bsGetbBody_of_past h) hp
  case bit => exact exec_of_phase_ok rfl hbit (bsGetbBody_of_within h) hp

end Sys2Proof.Machine
end

section
/-! SUPPORT. The divider and the syndrome calculator (R230 to R244): what each command's body checks and answers, the
leading coefficient cancelled by a division step, and any number of division steps in a row. -/
namespace Sys2Proof.Machine

/-! The generator's leading coefficient. -/

theorem le_of_mem_validR {r : Nat} (h : r ∈ validR) : r ≤ 30 :=
  (by decide : ∀ r ∈ validR, r ≤ 30) r h

/-- Every generator polynomial is monic (R75). -/
theorem gfGenOf_zero {r : Nat} (h : r ∈ validR) : gfGenOf r 0 = 1 :=
  (by decide : ∀ r ∈ validR, gfGenOf r 0 = 1) r h

/-- `EXP` undoes `LOG`, a finite check of the tables (R73). -/
theorem gfExpOf_gfLogOf {a : Byte} (h : a ≠ 0) : gfExpOf (gfLogOf a) = a :=
  (by decide +kernel : ∀ a : Byte, a ≠ 0 → gfExpOf (gfLogOf a) = a) a h

/-- `0x01` is the unit of the field: its logarithm is 0 (R171). -/
theorem one_gfMul (a : Byte) : gfMul 1 a = a := by
  by_cases h : a = 0
  · rw [gfMul, if_pos (.inr h), h]
  · have hlog : gfLogOf 1 = 0 := by decide
    rw [gfMul, if_neg (not_or.mpr ⟨by decide, h⟩), hlog, Nat.zero_add, Nat.mod_eq_of_lt (gfLogOf_lt h),
      gfExpOf_gfLogOf h]

/-! One division step. -/

/-- The counters `RS_FILL` and `RS_HEAD` count modulo their width. -/
theorem ofNat_toNat_succ (x : BitVec 8) : BitVec.ofNat 8 (x.toNat + 1) = x + 1 := by bv_omega

theorem rsStep_frame (s : State) : rsStep s = { s with rsbuf := (rsStep s).rsbuf, rsHead := s.rsHead + 1 } := by
  rw [← ofNat_toNat_succ]; rfl

theorem toNat_rsHead_rsStep {s : State} (h : s.rsHead.toNat < s.rsK.toNat) :
    (rsStep s).rsHead.toNat = s.rsHead.toNat + 1 := by
  rw [rsStep_rsHead, BitVec.toNat_ofNat, Nat.mod_eq_of_lt (by omega)]

theorem length_rsbuf_rsStep {s : State} (h : s.rsHead.toNat + (s.rsR.toNat + 1) ≤ s.rsbuf.length) :
    (rsStep s).rsbuf.length = s.rsbuf.length := by
  by_cases hlead : s.rsAt s.rsHead.toNat = 0
  · exact congrArg List.length (if_neg (not_not_intro hlead))
  · exact (congrArg List.length (if_pos hlead)).trans
      (length_rewrite Config.unwrittenRsbuf
        (fun k x => x ^^^ gfMul (gfGenOf s.rsR.toNat k) (s.rsAt s.rsHead.toNat)) _ _ _ h)

/-- With a monic generator a step makes the leading byte 0 and leaves the bytes consumed before it 0 (R231). -/
theorem rsAt_rsStep_of_le_head {s : State} (hr : s.rsR.toNat ∈ validR) (hzero : ∀ i < s.rsHead.toNat, s.rsAt i = 0)
    {i : Nat} (hi : i ≤ s.rsHead.toNat) : (rsStep s).rsAt i = 0 := by
  rw [rsAt_rsStep]
  rcases Nat.lt_or_eq_of_le hi with hlt | rfl
  · rw [if_neg (by omega), hzero i hlt]
  · by_cases hlead : s.rsAt s.rsHead.toNat = 0
    · rw [if_neg (fun h => h.1 hlead), hlead]
    · rw [if_pos ⟨hlead, by omega, by omega⟩, Nat.sub_self, gfGenOf_zero hr, one_gfMul]
      exact BitVec.xor_self

/-- A step of a loaded and unfinished divider keeps the divider's invariant (R30, R31). -/
theorem rsCoherent_rsStep {s : State} (hc : RsCoherent s) (hr : s.rsR ≠ 0) (hfill : s.rsFill = s.rsK)
    (hhead : s.rsHead.toNat < s.rsK.toNat) : RsCoherent (rsStep s) := by
  obtain ⟨hvalid, hk, hsum, hload, -, -, hlen, hzero⟩ := hc.2 hr
  refine ⟨fun h => absurd h hr, fun _ => ⟨hvalid, hk, hsum, hload, ?headLe, fun _ => hfill, ?length, ?consumed⟩⟩
  case headLe => rw [toNat_rsHead_rsStep hhead]; exact hhead
  case length => rw [length_rsbuf_rsStep (by omega), hlen]
  case consumed =>
    intro i hi
    rw [toNat_rsHead_rsStep hhead] at hi
    exact rsAt_rsStep_of_le_head hvalid hzero (Nat.le_of_lt_succ hi)

/-! Several division steps. -/

theorem rsSteps_frame (n : Nat) (s : State) :
    rsSteps n s = { s with rsbuf := (rsSteps n s).rsbuf, rsHead := s.rsHead + BitVec.ofNat 8 n } := by
  induction n generalizing s with
  | zero => exact congrArg (fun h => { s with rsHead := h }) (BitVec.add_zero s.rsHead).symm
  | succ n ih =>
    have hhead : s.rsHead + BitVec.ofNat 8 (n + 1) = s.rsHead + 1 + BitVec.ofNat 8 n := by
      bv_omega
    rw [rsSteps, ih (rsStep s), rsStep_frame, hhead]

theorem rsCoherent_rsSteps {n : Nat} {s : State} (hc : RsCoherent s) (hr : s.rsR ≠ 0) (hfill : s.rsFill = s.rsK)
    (hn : s.rsHead.toNat + n ≤ s.rsK.toNat) : RsCoherent (rsSteps n s) := by
  induction n generalizing s with
  | zero => exact hc
  | succ n ih =>
    have hhead : s.rsHead.toNat < s.rsK.toNat := by omega
    refine ih (rsCoherent_rsStep hc hr hfill hhead) hr hfill ?_
    rw [toNat_rsHead_rsStep hhead, rsStep_rsK]; omega

/-! The divider's commands. -/

/-- The three checks raise the same error, so their order does not show (R232). -/
theorem rsCfgBody_of_bad_operands {k r : Nat} (s : State) (h : ¬(1 ≤ k ∧ r ∈ validR ∧ k + r ≤ 255)) :
    rsCfgBody k r s = .error .operandRange := by
  by_cases hk : 1 ≤ k
  · by_cases hr : r ∈ validR
    · have hsum : ¬k + r ≤ 255 := fun hsum => h ⟨hk, hr, hsum⟩
      rw [rsCfgBody, require_true hk, ok_bind, require_true hr, ok_bind, require_false hsum, error_bind]
    · rw [rsCfgBody, require_true hk, ok_bind, require_false hr, error_bind]
  · rw [rsCfgBody, require_false hk, error_bind]

theorem rsCfgBody_of_valid {k r : Nat} (s : State) (hk : 1 ≤ k) (hr : r ∈ validR) (hsum : k + r ≤ 255) :
    rsCfgBody k r s = .ok { s with
      rsK := BitVec.ofNat 8 k, rsR := BitVec.ofNat 5 r, rsFill := 0, rsHead := 0, rsbuf := List.replicate 255 0 } := by
  rw [rsCfgBody, require_true hk, ok_bind, require_true hr, ok_bind, require_true hsum, ok_bind]

theorem rsDataBody_of_unconfigured (d : Byte) {s : State} (h : s.rsR = 0) : rsDataBody d s = .error .sequenceError := by
  rw [rsDataBody, require_false (not_not_intro h), error_bind]

theorem rsDataBody_of_not_loading (d : Byte) {s : State} (hr : s.rsR ≠ 0)
    (h : ¬(s.rsHead = 0 ∧ s.rsFill.toNat < s.rsK.toNat)) : rsDataBody d s = .error .sequenceError := by
  rw [rsDataBody, require_true hr, ok_bind, require_false h, error_bind]

theorem rsDataBody_of_loading (d : Byte) {s : State} (hr : s.rsR ≠ 0)
    (h : s.rsHead = 0 ∧ s.rsFill.toNat < s.rsK.toNat) :
    rsDataBody d s = .ok { s with
      rsbuf := writeAt Config.unwrittenRsbuf s.rsbuf s.rsFill.toNat d, rsFill := s.rsFill + 1 } := by
  rw [rsDataBody, require_true hr, ok_bind, require_true h, ok_bind, ofNat_toNat_succ]

theorem rsStepBody_of_unconfigured {s : State} (h : s.rsR = 0) : rsStepBody s = .error .sequenceError := by
  rw [rsStepBody, require_false (not_not_intro h), error_bind]

theorem rsStepBody_of_not_dividing {s : State} (hr : s.rsR ≠ 0)
    (h : ¬(s.rsFill = s.rsK ∧ s.rsHead.toNat < s.rsK.toNat)) : rsStepBody s = .error .sequenceError := by
  rw [rsStepBody, require_true hr, ok_bind, require_false h, error_bind]

theorem rsStepBody_of_dividing {s : State} (hr : s.rsR ≠ 0)
    (h : s.rsFill = s.rsK ∧ s.rsHead.toNat < s.rsK.toNat) : rsStepBody s = .ok (rsStep s) := by
  rw [rsStepBody, require_true hr, ok_bind, require_true h, ok_bind]

theorem rsRunBody_of_unconfigured {s : State} (h : s.rsR = 0) : rsRunBody s = .error .sequenceError := by
  rw [rsRunBody, require_false (not_not_intro h), error_bind]

theorem rsRunBody_of_not_loaded {s : State} (hr : s.rsR ≠ 0) (h : s.rsFill ≠ s.rsK) :
    rsRunBody s = .error .sequenceError := by
  rw [rsRunBody, require_true hr, ok_bind, require_false h, error_bind]

theorem rsRunBody_of_loaded {s : State} (hr : s.rsR ≠ 0) (h : s.rsFill = s.rsK) :
    rsRunBody s = .ok (rsSteps (s.rsK.toNat - s.rsHead.toNat) s) := by
  rw [rsRunBody, require_true hr, ok_bind, require_true h, ok_bind]

theorem rsGetBody_of_unconfigured (i : Byte) {s : State} (h : s.rsR = 0) : rsGetBody i s = .error .sequenceError := by
  rw [rsGetBody, require_false (not_not_intro h), error_bind]

theorem rsGetBody_of_past {i : Byte} {s : State} (hr : s.rsR ≠ 0) (h : s.rsK.toNat + s.rsR.toNat ≤ i.toNat) :
    rsGetBody i s = .error .operandRange := by
  rw [rsGetBody, require_true hr, ok_bind, require_false (Nat.not_lt.mpr h), error_bind]

theorem rsGetBody_of_within {i : Byte} {s : State} (hr : s.rsR ≠ 0) (h : i.toNat < s.rsK.toNat + s.rsR.toNat) :
    rsGetBody i s = .ok (setRes ((s.rsAt i.toNat).setWidth 32) s) := by
  rw [rsGetBody, require_true hr, ok_bind, require_true h, ok_bind, zext32_toNat]

/-- `n` times `RS_STEP` in a loaded divider with at least `n` steps left (R234, R235). -/
theorem execAll_replicate_rsStep {n : Nat} {s : State} (hs : s.phase ≠ .error) (hr : s.rsR ≠ 0)
    (hfill : s.rsFill = s.rsK) (hn : s.rsHead.toNat + n ≤ s.rsK.toNat) :
    execAll (List.replicate n .rsStep) s = .next (rsSteps n s) := by
  induction n generalizing s with
  | zero => rfl
  | succ n ih =>
    have hhead : s.rsHead.toNat < s.rsK.toNat := by omega
    have hstep : exec .rsStep s = .next (rsStep s) :=
      exec_of_body_ok (fun _ => rfl) hs (rsStepBody_of_dividing hr ⟨hfill, hhead⟩)
    rw [List.replicate_succ, execAll_cons hstep, rsSteps]
    refine ih hs hr hfill ?_
    rw [toNat_rsHead_rsStep hhead, rsStep_rsK]; omega

/-! The syndrome calculator's commands. -/

theorem synClrBody_of_bad_count {r : Byte} (s : State) (h : ¬(1 ≤ r.toNat ∧ r.toNat ≤ 30)) :
    synClrBody r s = .error .operandRange := by
  rw [synClrBody, require_false h, error_bind]

theorem synClrBody_of_count {r : Byte} (s : State) (h : 1 ≤ r.toNat ∧ r.toNat ≤ 30) :
    synClrBody r s = .ok { s with synR := BitVec.ofNat 5 r.toNat, syn := List.replicate 30 0 } := by
  rw [synClrBody, require_true h, ok_bind]

theorem synInBody_of_unconfigured (b : Byte) {s : State} (h : s.synR = 0) : synInBody b s = .error .sequenceError := by
  rw [synInBody, require_false (not_not_intro h), error_bind]

theorem synInBody_of_configured (b : Byte) {s : State} (h : s.synR ≠ 0) :
    synInBody b s = .ok { s with syn := synHorner s.synR.toNat b s.syn } := by
  rw [synInBody, require_true h, ok_bind]

theorem synGetBody_of_unconfigured (j : Byte) {s : State} (h : s.synR = 0) :
    synGetBody j s = .error .sequenceError := by
  rw [synGetBody, require_false (not_not_intro h), error_bind]

theorem synGetBody_of_past {j : Byte} {s : State} (hr : s.synR ≠ 0) (h : s.synR.toNat ≤ j.toNat) :
    synGetBody j s = .error .operandRange := by
  rw [synGetBody, require_true hr, ok_bind, require_false (Nat.not_lt.mpr h), error_bind]

theorem synGetBody_of_within {j : Byte} {s : State} (hr : s.synR ≠ 0) (h : j.toNat < s.synR.toNat) :
    synGetBody j s = .ok (setRes ((s.synAt j.toNat).setWidth 32) s) := by
  rw [synGetBody, require_true hr, ok_bind, require_true h, ok_bind, zext32_toNat]

theorem synAllZero_eq_true_iff (s : State) : s.synAllZero = true ↔ ∀ j < s.synR.toNat, s.synAt j = 0 := by
  simp [State.synAllZero]

theorem synOkBody_of_unconfigured {s : State} (h : s.synR = 0) : synOkBody s = .error .sequenceError := by
  rw [synOkBody, require_false (not_not_intro h), error_bind]

theorem synOkBody_of_zero {s : State} (hr : s.synR ≠ 0) (h : ∀ j < s.synR.toNat, s.synAt j = 0) :
    synOkBody s = .ok (setRes 1 s) := by
  rw [synOkBody, require_true hr, ok_bind, if_pos ((synAllZero_eq_true_iff s).mpr h)]

theorem synOkBody_of_nonzero {s : State} (hr : s.synR ≠ 0) (h : ∃ j < s.synR.toNat, s.synAt j ≠ 0) :
    synOkBody s = .ok (setRes 0 s) := by
  obtain ⟨j, hj, hne⟩ := h
  rw [synOkBody, require_true hr, ok_bind, if_neg fun hz => hne ((synAllZero_eq_true_iff s).mp hz j hj)]

end Sys2Proof.Machine
end

section
/-! SUPPORT. The commands of the divider and of the syndrome calculator: `RsLoad`, `RsStep`, `RsRun`, `RsSynGet`,
`SynCommands`. -/
namespace Sys2Proof.Machine

/-- Settles O32: configuring replaces the divider's registers and clears its buffer, loading is one write at
`RS_FILL`. -/
theorem rsLoad : Obligations.RsLoad := by
  refine fun s hs => ⟨fun k r => ⟨fun h => ?badOperands, fun hk hr hsum => ?configure⟩,
    fun d => ⟨fun h => ?unconfigured, fun hr h => ?notLoading, fun hr hhead hfill => ?load⟩⟩
  case badOperands => exact raises_of_body_error (fun _ => rfl) hs (rsCfgBody_of_bad_operands s h)
  case configure =>
    have hr30 : r.toNat ≤ 30 := le_of_mem_validR hr
    refine ⟨_, exec_of_body_ok (fun _ => rfl) hs (rsCfgBody_of_valid s hk hr hsum), ?frame, ?count, fun i hi => ?zero⟩
    case frame => rw [BitVec.ofNat_toNat, BitVec.setWidth_eq]
    case count => rw [BitVec.toNat_ofNat, Nat.mod_eq_of_lt (by omega)]
    case zero => exact (readAt_replicate Config.unwrittenRsbuf 255 0 i).trans (if_pos hi)
  case unconfigured => exact raises_of_body_error (fun _ => rfl) hs (rsDataBody_of_unconfigured d h)
  case notLoading => exact raises_of_body_error (fun _ => rfl) hs (rsDataBody_of_not_loading d hr h)
  case load =>
    exact ⟨_, exec_of_body_ok (fun _ => rfl) hs (rsDataBody_of_loading d hr ⟨hhead, hfill⟩), rfl,
      fun i => readAt_writeAt Config.unwrittenRsbuf s.rsbuf s.rsFill.toNat i d⟩

/-- Settles O33: the step rewrites the `RS_R + 1` bytes from the head on, and the monic generator cancels the leading
byte. -/
theorem rsStep_elementwise : Obligations.RsStep := by
  refine fun s hs => ⟨fun h => ?unconfigured, fun hr h => ?notDividing, fun hr hfill hhead => ?divide⟩
  case unconfigured => exact raises_of_body_error (fun _ => rfl) hs (rsStepBody_of_unconfigured h)
  case notDividing => exact raises_of_body_error (fun _ => rfl) hs (rsStepBody_of_not_dividing hr h)
  case divide =>
    refine ⟨rsStep s, exec_of_body_ok (fun _ => rfl) hs (rsStepBody_of_dividing hr ⟨hfill, hhead⟩), rsStep_frame s,
      fun hlead i => ?leadZero, fun hlead i => ?subtract, fun hc i hi => ?consumed⟩
    case leadZero => rw [rsAt_rsStep, if_neg fun h => h.1 hlead]
    case subtract =>
      simp only [rsAt_rsStep, ne_eq, hlead, not_false_eq_true, true_and, ← Nat.add_assoc, Nat.lt_succ_iff]
    case consumed =>
      obtain ⟨-, -, -, -, -, -, -, hzero⟩ := (rsCoherent_rsStep hc hr hfill hhead).2 hr
      exact hzero i hi

/-- Settles O34: by induction on the number of steps left, each keeping the divider's invariant. -/
theorem rsRun : Obligations.RsRun := by
  refine fun s hs => ⟨fun h => ?unconfigured, fun hr h => ?notLoaded, fun hr hfill hle => ?run⟩
  case unconfigured => exact raises_of_body_error (fun _ => rfl) hs (rsRunBody_of_unconfigured h)
  case notLoaded => exact raises_of_body_error (fun _ => rfl) hs (rsRunBody_of_not_loaded hr h)
  case run =>
    have hn : s.rsHead.toNat + (s.rsK.toNat - s.rsHead.toNat) ≤ s.rsK.toNat := by omega
    have hhead : s.rsHead + BitVec.ofNat 8 (s.rsK.toNat - s.rsHead.toNat) = s.rsK := by bv_omega
    have hframe := rsSteps_frame (s.rsK.toNat - s.rsHead.toNat) s
    rw [hhead] at hframe
    refine ⟨rsSteps (s.rsK.toNat - s.rsHead.toNat) s, exec_of_body_ok (fun _ => rfl) hs (rsRunBody_of_loaded hr hfill),
      execAll_replicate_rsStep hs hr hfill hn, hframe, fun hdone => ?finished, fun hc i hi => ?consumed⟩
    case finished => rw [hdone, Nat.sub_self, rsSteps]
    case consumed =>
      obtain ⟨-, -, -, -, -, -, -, hzero⟩ := (rsCoherent_rsSteps hc hr hfill hn).2 (by rw [hframe]; exact hr)
      exact hzero i (by rw [hframe]; exact hi)

/-- Settles O36: the two reads have the same checks in the same order. -/
theorem rsSynGet : Obligations.RsSynGet := by
  refine fun i s hs => ⟨fun h => ?rsUnconfigured, fun hr h => ?rsPast, fun hr h => ?rsRead,
    fun h => ?synUnconfigured, fun hr h => ?synPast, fun hr h => ?synRead⟩
  case rsUnconfigured => exact raises_of_body_error (fun _ => rfl) hs (rsGetBody_of_unconfigured i h)
  case rsPast => exact raises_of_body_error (fun _ => rfl) hs (rsGetBody_of_past hr h)
  case rsRead => exact exec_of_body_ok (fun _ => rfl) hs (rsGetBody_of_within hr h)
  case synUnconfigured => exact raises_of_body_error (fun _ => rfl) hs (synGetBody_of_unconfigured i h)
  case synPast => exact raises_of_body_error (fun _ => rfl) hs (synGetBody_of_past hr h)
  case synRead => exact exec_of_body_ok (fun _ => rfl) hs (synGetBody_of_within hr h)

/-- Settles O37: each accumulator's new value depends on its own old one only, so all update together. -/
theorem synCommands : Obligations.SynCommands := by
  refine fun s hs => ⟨fun r => ⟨fun h => ?badCount, fun h1 h30 => ?clear⟩,
    fun b => ⟨fun h => ?feedUnconfigured, fun hr => ?feed⟩,
    fun h => ?testUnconfigured, fun hr h => ?testZero, fun hr h => ?testNonzero⟩
  case badCount => exact raises_of_body_error (fun _ => rfl) hs (synClrBody_of_bad_count s h)
  case clear =>
    exact ⟨_, exec_of_body_ok (fun _ => rfl) hs (synClrBody_of_count s ⟨h1, h30⟩), rfl,
      by rw [BitVec.toNat_ofNat, Nat.mod_eq_of_lt (by omega)],
      fun j hj => (readAt_replicate Config.unwrittenSyn 30 0 j).trans (if_pos hj)⟩
  case feedUnconfigured => exact raises_of_body_error (fun _ => rfl) hs (synInBody_of_unconfigured b h)
  case feed =>
    exact ⟨_, exec_of_body_ok (fun _ => rfl) hs (synInBody_of_configured b hr), rfl,
      fun j => readAt_synHorner s.synR.toNat b s.syn j⟩
  case testUnconfigured => exact raises_of_body_error (fun _ => rfl) hs (synOkBody_of_unconfigured h)
  case testZero => exact exec_of_body_ok (fun _ => rfl) hs (synOkBody_of_zero hr h)
  case testNonzero => exact exec_of_body_ok (fun _ => rfl) hs (synOkBody_of_nonzero hr h)

end Sys2Proof.Machine
end

section
/-! SUPPORT. Codewords read back (R252, R253): `BlkCwGet`. -/
namespace Sys2Proof.Machine

theorem legalIn_blkGet_cwGet {p : Phase} (h6 : 6 ≤ p.code) (h11 : p.code ≤ 11) (b i : Byte) (j : BitVec 16) :
    legalIn (.blkGet b i) p = true ∧ legalIn (.cwGet j) p = true := by
  have hwithin : p.within .coded .done = true := Bool.and_eq_true_iff.mpr ⟨decide_eq_true h6, decide_eq_true h11⟩
  exact ⟨hwithin, hwithin⟩

/-- Both checks raise the same error, so their order does not show (R252). -/
theorem blkGetBody_of_bad_operands {b i : Byte} {s : State}
    (h : ¬(b.toNat < s.vspec.nb ∧ i.toNat < s.vspec.blkLen b.toNat + s.vspec.r)) :
    blkGetBody b i s = .error .operandRange := by
  by_cases hb : b.toNat < s.vspec.nb
  · have hi : ¬i.toNat < s.vspec.blkLen b.toNat + s.vspec.r := fun hi => h ⟨hb, hi⟩
    rw [blkGetBody, require_true hb, ok_bind, require_false hi, error_bind]
  · rw [blkGetBody, require_false hb, error_bind]

/-- The byte of the block in the order data, then parity (R252). -/
theorem blkGetBody_of_within {b i : Byte} {s : State} (hb : b.toNat < s.vspec.nb)
    (hi : i.toNat < s.vspec.blkLen b.toNat + s.vspec.r) :
    blkGetBody b i s = .ok (setRes ((if i.toNat < s.vspec.blkLen b.toNat then s.dbyte (s.vspec.blkOff b.toNat + i.toNat)
      else s.parAt b.toNat (i.toNat - s.vspec.blkLen b.toNat)).setWidth 32) s) := by
  rw [← zext32_toNat, blkGetBody, require_true hb, ok_bind, require_true hi, ok_bind]

theorem cwGetBody_of_past {i : BitVec 16} {s : State} (h : s.cwlen.toNat ≤ i.toNat) :
    cwGetBody i s = .error .operandRange := by
  rw [cwGetBody, require_false (Nat.not_lt.mpr h), error_bind]

theorem cwGetBody_of_within {i : BitVec 16} {s : State} (h : i.toNat < s.cwlen.toNat) :
    cwGetBody i s = .ok (setRes ((s.cwAt i.toNat).setWidth 32) s) := by
  rw [cwGetBody, require_true h, ok_bind, zext32_toNat]

/-- Settles O42: the two reads are their bodies in the phases 6 to 11; a block's index below its data length selects
data, from there on parity. -/
theorem blkCwGet : Obligations.BlkCwGet := by
  intro s h6 h11
  have hp : s.phase ≠ .error := fun he => absurd h11 (by rw [he]; decide)
  have hblk (b i : Byte) : legalIn (.blkGet b i) s.phase = true := (legalIn_blkGet_cwGet h6 h11 b i 0).1
  have hcw (i : BitVec 16) : legalIn (.cwGet i) s.phase = true := (legalIn_blkGet_cwGet h6 h11 0 0 i).2
  refine ⟨fun b i => ⟨fun h => ?badBlock, fun h => ?badIndex, fun hb hi => ?data, fun hb hk hi => ?parity⟩,
    fun i => ⟨fun h => ?past, fun h => ?codeword⟩⟩
  case badBlock =>
    exact raises_of_phase rfl (hblk b i) (blkGetBody_of_bad_operands fun hw => Nat.not_lt.mpr h hw.1) hp
  case badIndex =>
    exact raises_of_phase rfl (hblk b i) (blkGetBody_of_bad_operands fun hw => Nat.not_lt.mpr h hw.2) hp
  case data =>
    have hbody := blkGetBody_of_within hb (Nat.lt_add_right s.vspec.r hi)
    rw [if_pos hi] at hbody
    exact exec_of_phase_ok rfl (hblk b i) hbody hp
  case parity =>
    have hbody := blkGetBody_of_within hb hi
    rw [if_neg (Nat.not_lt.mpr hk)] at hbody
    exact exec_of_phase_ok rfl (hblk b i) hbody hp
  case past => exact raises_of_phase rfl (hcw i) (cwGetBody_of_past h) hp
  case codeword => exact exec_of_phase_ok rfl (hcw i) (cwGetBody_of_within h) hp

end Sys2Proof.Machine
end

section
/-! SUPPORT. The commands that write function patterns, in `MATRIX` (R270 to R277): each is its operation, and what a
list of writes puts at a module, from the writes the list holds. -/
namespace Sys2Proof.Machine

theorem exec_mxFinder {s : State} (h : s.phase = .matrix) : exec .mxFinder s = .next (mxFinderOp s) :=
  exec_of_phase_ok h rfl rfl

theorem exec_mxTiming {s : State} (h : s.phase = .matrix) : exec .mxTiming s = .next (mxTimingOp s) :=
  exec_of_phase_ok h rfl rfl

theorem exec_mxAlign {s : State} (h : s.phase = .matrix) : exec .mxAlign s = .next (mxAlignOp s) :=
  exec_of_phase_ok h rfl rfl

theorem exec_mxReserve {s : State} (h : s.phase = .matrix) : exec .mxReserve s = .next (mxReserveOp s) :=
  exec_of_phase_ok h rfl rfl

theorem exec_mxFunc {s : State} (h : s.phase = .matrix) : exec .mxFunc s = .next (mxFuncOp s) :=
  exec_of_phase_ok h rfl rfl

/-- The smallest symbol, version 1, has 21 rows (R27). -/
theorem State.le_size {s : State} (h : 1 ≤ s.ver.toNat) : 21 ≤ s.size := by
  rw [State.size, if_neg (by omega)]
  omega

theorem lastWrite_of_mem {ws : List FuncWrite} {r c : Nat} {d : Bool} (hmem : (r, c, d) ∈ ws)
    (h : ∀ d', (r, c, d') ∈ ws → d' = d) : lastWrite ws r c = some d := by
  refine lastWrite_eq_some ⟨_, hmem, rfl, rfl⟩ ?_
  rintro ⟨r', c', d'⟩ hw ⟨rfl, rfl⟩
  exact h d' hw

theorem lastWrite_of_not_mem {ws : List FuncWrite} {r c : Nat} (h : ∀ d, (r, c, d) ∉ ws) : lastWrite ws r c = none := by
  refine lastWrite_eq_none ?_
  rintro ⟨r', c', d⟩ hw ⟨rfl, rfl⟩
  exact h d hw

/-- Only the grid and `FNMASK` change. -/
theorem setFn_writeFuncs_frame (b : BitVec 4) (ws : List FuncWrite) (s : State) :
    setFn b (writeFuncs ws s) = { s with grid := (setFn b (writeFuncs ws s)).grid, fnmask := s.fnmask ||| b } := rfl

@[simp] theorem writeFuncs_size (ws : List FuncWrite) (s : State) : (writeFuncs ws s).size = s.size := rfl

@[simp] theorem setFn_size (b : BitVec 4) (s : State) : (setFn b s).size = s.size := rfl

/-- Two such operations in a row are one. -/
theorem setFn_writeFuncs_setFn_writeFuncs (b b' : BitVec 4) (ws ws' : List FuncWrite) (s : State) :
    setFn b' (writeFuncs ws' (setFn b (writeFuncs ws s))) = setFn (b ||| b') (writeFuncs (ws ++ ws') s) := by
  simp only [setFn, writeFuncs, setFuncs_append, BitVec.or_assoc]

/-- A module in the state after an operation that writes the functions `ws`. -/
theorem moduleAt_setFn_writeFuncs (b : BitVec 4) (ws : List FuncWrite) (s : State) (r c : Nat) :
    (setFn b (writeFuncs ws s)).moduleAt r c = (lastWrite ws r c).elim (s.moduleAt r c) .function := by
  rw [State.moduleAt, setFn_grid, writeFuncs_grid, gridAt_setFuncs]
  cases lastWrite ws r c <;> rfl

end Sys2Proof.Machine
end

section
/-! SUPPORT. A blank grid, `MxInit` (R272), and the two reads of a module, `MxReads` (R280, R283). -/
namespace Sys2Proof.Machine

theorem gridAt_nil (r c : Nat) : gridAt [] r c = Config.unwrittenModule r c := rfl

theorem gridAt_replicate (n m : Nat) (v : Module) (r c : Nat) :
    gridAt (List.replicate n (List.replicate m v)) r c = if r < n ∧ c < m then v else Config.unwrittenModule r c := by
  rw [gridAt, readAt2, List.getElem?_replicate]
  by_cases hr : r < n
  · rw [if_pos hr, Option.getD_some, readAt_replicate]
    simp only [hr, true_and]
  · rw [if_neg hr, if_neg fun h => hr h.1]
    rfl

/-- Settles O43: the new grid is a blank one, and a coherent state in `CODED` has written no module yet. -/
theorem mxInit : Obligations.MxInit := by
  refine fun s hs => ⟨_, exec_of_phase_ok hs rfl rfl, rfl, fun r hr c hc => ?inside, fun hcoh r c h => ?outside⟩
  case inside => exact (gridAt_replicate ..).trans (if_pos ⟨hr, hc⟩)
  case outside =>
    have hgrid : s.grid = [] := hcoh.1 (by rw [hs]; decide)
    rw [State.moduleAt, State.moduleAt, gridAt_replicate, if_neg h, hgrid, gridAt_nil]

theorem legalIn_mxGet {p : Phase} (h7 : 7 ≤ p.code) (h11 : p.code ≤ 11) (r c : Byte) : legalIn (.mxGet r c) p = true :=
  Bool.and_eq_true_iff.mpr ⟨decide_eq_true h7, decide_eq_true h11⟩

theorem mxGetBody_of_outside {r c : Byte} {s : State} (h : ¬(r.toNat < s.size ∧ c.toNat < s.size)) :
    mxGetBody r c s = .error .operandRange := by
  rw [mxGetBody, require_false h, error_bind]

theorem mxGetBody_of_inside {r c : Byte} {s : State} (hr : r.toNat < s.size) (hc : c.toNat < s.size) :
    mxGetBody r c s = .ok (setRes (zext32 (moduleCode (s.moduleAt r.toNat c.toNat))) s) := by
  rw [mxGetBody, require_true ⟨hr, hc⟩, ok_bind]

theorem mxPixBody_of_outside {r c : Byte} {s : State} (h : ¬(r.toNat < s.size ∧ c.toNat < s.size)) :
    mxPixBody r c s = .error .operandRange := by
  rw [mxPixBody, require_false h, error_bind]

theorem mxPixBody_of_inside {r c : Byte} {s : State} (hr : r.toNat < s.size) (hc : c.toNat < s.size) :
    mxPixBody r c s = .ok (setRes (zext32 (darkOf (s.moduleAt r.toNat c.toNat)).toNat) s) := by
  rw [mxPixBody, require_true ⟨hr, hc⟩, ok_bind]

theorem noUnset_eq_true_iff (s : State) :
    s.noUnset = true ↔ ∀ r < s.size, ∀ c < s.size, s.moduleAt r c ≠ .unset := by
  simp only [State.noUnset, List.all_eq_true, List.mem_range, decide_eq_true_eq]

/-- In a coherent state no module in use is `Unset` in `DONE` (R35). -/
theorem moduleAt_ne_unset_of_done {s : State} (hcoh : GridCoherent s) (hs : s.phase = .done) {r c : Nat}
    (hr : r < s.size) (hc : c < s.size) : s.moduleAt r c ≠ .unset := by
  obtain ⟨-, -, hfull⟩ := hcoh
  have hno : s.noUnset = true := hfull (by rw [State.active, hs]; decide) (by rw [hs]; decide)
  exact (noUnset_eq_true_iff s).1 hno r hr c hc

/-- Settles O48: both commands are one check and one write of `RES`; the codes are compared for each of the five values
of a module. -/
theorem mxReads : Obligations.MxReads := by
  refine fun r c s => ⟨fun h7 h11 => ?get, fun hs => ⟨fun h => ?outside, fun hr hc hcoh => ?full, fun hr hc => ?pix⟩⟩
  case get =>
    have hp : s.phase ≠ .error := fun he => absurd h11 (by rw [he]; decide)
    have hl : legalIn (.mxGet r c) s.phase = true := legalIn_mxGet h7 h11 r c
    refine ⟨fun h => raises_of_phase rfl hl (mxGetBody_of_outside h) hp, fun hr hc => ?_⟩
    rw [exec_of_phase_ok rfl hl (mxGetBody_of_inside hr hc) hp]
    rcases s.moduleAt r.toNat c.toNat with _ | (_ | _) | (_ | _) <;> rfl
  case outside => exact raises_of_phase hs rfl (mxPixBody_of_outside h)
  case full => exact moduleAt_ne_unset_of_done hcoh hs hr hc
  case pix =>
    have hl : legalIn (.mxPix r c) .done = true := rfl
    rw [exec_of_phase_ok hs hl (mxPixBody_of_inside hr hc)]
    rcases s.moduleAt r.toNat c.toNat with _ | (_ | _) | (_ | _) <;> rfl

end Sys2Proof.Machine
end

section
/-! SUPPORT. The finder and timing patterns (R273, R274): what their writes leave at each module, and
`FinderAndTiming`. -/
namespace Sys2Proof.Machine

theorem finderDark_eq_finderRing (dr dc : Nat) : finderDark dr dc = finderRing dr dc := by
  have hr : absDiff dr 3 = ((dr : Int) - 3).natAbs := by rw [absDiff]; omega
  have hc : absDiff dc 3 = ((dc : Int) - 3).natAbs := by rw [absDiff]; omega
  rw [finderDark, finderRing, hr, hc]

/-- In a symbol of at least 21 rows the three corner regions do not meet, and in each the finder is written after the
light region (R273). -/
theorem lastWrite_finderWrites {size : Nat} (h : 21 ≤ size) (r c : Nat) :
    lastWrite (finderWrites size) r c = finderValue size r c := by
  have hring : finderDark = finderRing := funext fun dr => funext (finderDark_eq_finderRing dr)
  simp only [finderWrites, lastWrite_append, lastWrite_areaWrites, hring, Nat.zero_add, Nat.zero_le, true_and]
  unfold finderValue
  split
  · next htopLeft => grind
  split
  · next htopRight => grind
  split
  · next hbottomLeft => grind
  · next hnoCorner => grind

theorem mem_timingWrites {size r c : Nat} {d : Bool} :
    (r, c, d) ∈ timingWrites size ↔
      (r = 6 ∧ 8 ≤ c ∧ c + 9 ≤ size ∧ d = decide (c % 2 = 0)) ∨
      (c = 6 ∧ 8 ≤ r ∧ r + 9 ≤ size ∧ d = decide (r % 2 = 0)) := by
  simp only [timingWrites, List.mem_flatMap, List.mem_range'_1, List.mem_cons, List.not_mem_nil, or_false,
    Prod.mk.injEq]
  constructor
  · rintro ⟨i, hi, ⟨rfl, rfl, hd⟩ | ⟨rfl, rfl, hd⟩⟩
    · exact .inl ⟨rfl, by omega, by omega, hd⟩
    · exact .inr ⟨rfl, by omega, by omega, hd⟩
  · rintro (⟨rfl, h8, h9, hd⟩ | ⟨rfl, h8, h9, hd⟩)
    · exact ⟨c, by omega, .inl ⟨rfl, rfl, hd⟩⟩
    · exact ⟨r, by omega, .inr ⟨rfl, rfl, hd⟩⟩

/-- Row 6 and column 6 meet at index 6, before both patterns (R274). -/
theorem lastWrite_timingWrites (size r c : Nat) : lastWrite (timingWrites size) r c = timingValue size r c := by
  unfold timingValue
  split
  · next hrow =>
    refine lastWrite_of_mem (mem_timingWrites.2 (.inl ⟨hrow.1, hrow.2.1, hrow.2.2, rfl⟩)) fun d hd => ?_
    rcases mem_timingWrites.1 hd with ⟨-, -, -, hd⟩ | ⟨hc, -⟩
    · exact hd
    · omega
  split
  · next hcol =>
    refine lastWrite_of_mem (mem_timingWrites.2 (.inr ⟨hcol.1, hcol.2.1, hcol.2.2, rfl⟩)) fun d hd => ?_
    rcases mem_timingWrites.1 hd with ⟨hr, -⟩ | ⟨-, -, -, hd⟩
    · omega
    · exact hd
  · next hrow hcol =>
    refine lastWrite_of_not_mem fun d hd => ?_
    rcases mem_timingWrites.1 hd with ⟨hr, h8, h9, -⟩ | ⟨hc, h8, h9, -⟩
    · exact hrow ⟨hr, h8, h9⟩
    · exact hcol ⟨hc, h8, h9⟩

/-- Settles O44: each command puts at a module what the last of its writes there holds, which is the closed form. -/
theorem finderAndTiming : Obligations.FinderAndTiming := by
  intro s hs hv
  refine ⟨⟨mxFinderOp s, exec_mxFinder hs, setFn_writeFuncs_frame .., fun r c => ?finder⟩,
    ⟨mxTimingOp s, exec_mxTiming hs, setFn_writeFuncs_frame .., fun r c => ?timing⟩⟩
  case finder =>
    rw [mxFinderOp, moduleAt_setFn_writeFuncs, lastWrite_finderWrites (State.le_size hv)]
    cases finderValue s.size r c <;> rfl
  case timing =>
    rw [mxTimingOp, moduleAt_setFn_writeFuncs, lastWrite_timingWrites]
    cases timingValue s.size r c <;> rfl

end Sys2Proof.Machine
end

section
/-! SUPPORT. The alignment patterns (R275): the coordinates of a well-formed list are at least 5 apart, so the patterns
do not meet, and `Alignment`. -/
namespace Sys2Proof.Machine

/-! The list of coordinates. -/

theorem pairwise_of_steps {a : List Nat} (h : ((a.zip a.tail).all fun (x, y) => x + 5 ≤ y) = true) :
    a.Pairwise fun x y => x + 5 ≤ y := by
  induction a with
  | nil => exact .nil
  | cons x a ih =>
    cases a with
    | nil => exact List.pairwise_singleton ..
    | cons y a =>
      simp only [List.tail_cons, List.zip_cons_cons, List.all_cons, Bool.and_eq_true, decide_eq_true_eq] at h ih
      obtain ⟨hxy, hsteps⟩ := h
      have hrest := ih hsteps
      refine List.pairwise_cons.2 ⟨fun z hz => ?_, hrest⟩
      rcases List.mem_cons.1 hz with rfl | hz
      · exact hxy
      · have hyz := List.rel_of_pairwise_cons hrest hz
        omega

theorem alignListWf_steps {v : Nat} {a : List Nat} (h : alignListWf v a = true) :
    (∀ x ∈ a.head?, x = 6) ∧ a.Pairwise fun x y => x + 5 ≤ y := by
  unfold alignListWf at h
  split at h
  · obtain rfl : a = [] := of_decide_eq_true h
    exact ⟨fun x hx => (Option.not_mem_none x hx).elim, .nil⟩
  · simp only [Bool.and_eq_true, decide_eq_true_eq] at h
    obtain ⟨⟨hhead, -⟩, hsteps⟩ := h
    exact ⟨fun x hx => Option.some.inj (hx.symm.trans hhead), pairwise_of_steps hsteps⟩

/-- Every coordinate of a well-formed list is at least the first, 6 (R89). -/
theorem le_of_mem_alignList {v : Nat} {a : List Nat} (h : alignListWf v a = true) {x : Nat} (hx : x ∈ a) : 6 ≤ x := by
  obtain ⟨hhead, hpair⟩ := alignListWf_steps h
  cases a with
  | nil => cases hx
  | cons y a =>
    have hy : y = 6 := hhead y rfl
    rcases List.mem_cons.1 hx with rfl | hx
    · exact Nat.le_of_eq hy.symm
    · have hxy := List.rel_of_pairwise_cons hpair hx
      omega

/-- A row or column is within distance 2 of at most one coordinate of a well-formed list (R89). -/
theorem eq_of_near_alignList {v : Nat} {a : List Nat} (h : alignListWf v a = true) {k x y : Nat} (hx : x ∈ a)
    (hy : y ∈ a) (hkx : absDiff k x ≤ 2) (hky : absDiff k y ≤ 2) : x = y := by
  obtain ⟨i, hi, rfl⟩ := List.getElem_of_mem hx
  obtain ⟨j, hj, rfl⟩ := List.getElem_of_mem hy
  have hsteps := List.pairwise_iff_getElem.1 (alignListWf_steps h).2
  rw [absDiff] at hkx hky
  rcases Nat.lt_trichotomy i j with hij | rfl | hij
  · have hstep := hsteps i j hi hj hij
    omega
  · rfl
  · have hstep := hsteps j i hj hi hij
    omega

/-! The writes. -/

theorem alignSkipped_eq_true_iff (size r c : Nat) : alignSkipped size r c = true ↔ atFinder size r c := by
  simp only [alignSkipped, atFinder, Bool.or_eq_true, Bool.and_eq_true, decide_eq_true_eq, or_assoc]

/-- The pattern in coordinates of the symbol: an offset from the corner `n - 2` is as far from 2 as the place is from
the centre `n`. -/
theorem absDiff_offset {n : Nat} (h : 2 ≤ n) (k : Nat) : absDiff (n - 2 + k) n = absDiff k 2 := by
  simp only [absDiff]
  omega

theorem mem_alignPattern {cr cc : Nat} (hr : 2 ≤ cr) (hc : 2 ≤ cc) {r c : Nat} {d : Bool} :
    (r, c, d) ∈ areaWrites (cr - 2) (cc - 2) 5 5 alignDark ↔
      absDiff r cr ≤ 2 ∧ absDiff c cc ≤ 2 ∧ d = decide (max (absDiff r cr) (absDiff c cc) ≠ 1) := by
  have near : ∀ {n k : Nat}, absDiff k n ≤ 2 → 2 ≤ n → ∃ o < 5, k = n - 2 + o := by
    intro n k hk hn
    rw [absDiff] at hk
    exact ⟨k + 2 - n, by omega, by omega⟩
  rw [mem_areaWrites]
  constructor
  · rintro ⟨dr, hdr, dc, hdc, ⟨⟩⟩
    rw [absDiff_offset hr, absDiff_offset hc]
    exact ⟨by rw [absDiff]; omega, by rw [absDiff]; omega, rfl⟩
  · rintro ⟨hrow, hcol, rfl⟩
    obtain ⟨dr, hdr, rfl⟩ := near hrow hr
    obtain ⟨dc, hdc, rfl⟩ := near hcol hc
    refine ⟨dr, hdr, dc, hdc, ?_⟩
    rw [absDiff_offset hr, absDiff_offset hc, alignDark]

theorem mem_alignWrites {size v : Nat} {a : List Nat} (ha : alignListWf v a = true) {r c : Nat} {d : Bool} :
    (r, c, d) ∈ alignWrites size a ↔
      ∃ cr ∈ a, ∃ cc ∈ a, ¬atFinder size cr cc ∧ absDiff r cr ≤ 2 ∧ absDiff c cc ≤ 2 ∧
        d = decide (max (absDiff r cr) (absDiff c cc) ≠ 1) := by
  have two_le : ∀ x ∈ a, 2 ≤ x := fun x hx => Nat.le_trans (by decide) (le_of_mem_alignList ha hx)
  simp only [alignWrites, alignCentres, List.mem_flatMap, List.mem_filter, List.mem_map, Bool.not_eq_true',
    ← Bool.not_eq_true, alignSkipped_eq_true_iff]
  constructor
  · rintro ⟨_, ⟨⟨cr, hcr, cc, hcc, rfl⟩, hat⟩, hw⟩
    exact ⟨cr, hcr, cc, hcc, hat, (mem_alignPattern (two_le cr hcr) (two_le cc hcc)).1 hw⟩
  · rintro ⟨cr, hcr, cc, hcc, hat, hw⟩
    exact ⟨_, ⟨⟨cr, hcr, cc, hcc, rfl⟩, hat⟩, (mem_alignPattern (two_le cr hcr) (two_le cc hcc)).2 hw⟩

/-- Only the pattern a module lies in writes it, as no two meet (R275). -/
theorem lastWrite_alignWrites {size v : Nat} {a : List Nat} (ha : alignListWf v a = true) {cr cc r c : Nat}
    (hcr : cr ∈ a) (hcc : cc ∈ a) (hat : ¬atFinder size cr cc) (hr : absDiff r cr ≤ 2) (hc : absDiff c cc ≤ 2) :
    lastWrite (alignWrites size a) r c = some (decide (max (absDiff r cr) (absDiff c cc) ≠ 1)) := by
  refine lastWrite_of_mem ((mem_alignWrites ha).2 ⟨cr, hcr, cc, hcc, hat, hr, hc, rfl⟩) fun d hd => ?_
  obtain ⟨cr', hcr', cc', hcc', -, hr', hc', rfl⟩ := (mem_alignWrites ha).1 hd
  rw [eq_of_near_alignList ha hcr' hcr hr' hr, eq_of_near_alignList ha hcc' hcc hc' hc]

/-- Settles O45: a module in a pattern has that pattern's value, any other has no write. -/
theorem alignment : Obligations.Alignment := by
  intro s hs _ _ a ha
  refine ⟨mxAlignOp s, exec_mxAlign hs, setFn_writeFuncs_frame .., fun cr hcr cc hcc hat r c hr hc => ?pattern,
    fun r c hout => ?other⟩
  case pattern =>
    rw [mxAlignOp, moduleAt_setFn_writeFuncs, lastWrite_alignWrites ha hcr hcc hat hr hc, Option.elim_some]
  case other =>
    rw [mxAlignOp, moduleAt_setFn_writeFuncs, lastWrite_of_not_mem, Option.elim_none]
    intro d hd
    obtain ⟨cr, hcr, cc, hcc, hat, hr, hc, -⟩ := (mem_alignWrites ha).1 hd
    exact hout cr hcr cc hcc hat ⟨hr, hc⟩

end Sys2Proof.Machine
end

section
/-! SUPPORT. The cells of the format and version words (R353 to R356), the reserved cells (R276), `MX_FUNC` as four
commands (R277), and `ReserveAndFunc`. -/
namespace Sys2Proof.Machine

/-! The cells. -/

theorem mem_fmtWrites {size : Nat} {w : BitVec 15} {r c : Nat} {d : Bool} :
    (r, c, d) ∈ fmtWrites size w ↔ ∃ i < 15, (r, c) ∈ [fmtCellA i, fmtCellB size i] ∧ d = w.getLsbD i := by
  simp only [fmtWrites, List.mem_flatMap, List.mem_range, List.mem_cons, List.not_mem_nil, or_false, Prod.ext_iff,
    ← and_assoc, ← or_and_right]

theorem mem_verWrites {size : Nat} {w : BitVec 18} {r c : Nat} {d : Bool} :
    (r, c, d) ∈ verWrites size w ↔ ∃ i < 18, (r, c) ∈ versionCells size i ∧ d = w.getLsbD i := by
  simp only [verWrites, versionCells, verCellA, verCellB, List.mem_flatMap, List.mem_range, List.mem_cons,
    List.not_mem_nil, or_false, Prod.ext_iff, ← and_assoc, ← or_and_right]

/-- The printed lists of format cells are the cells `fmt_cell_a` and `fmt_cell_b` (R353). -/
theorem mem_formatCopies {size : Nat} (h : 21 ≤ size) (rc : Nat × Nat) :
    rc ∈ formatCopyA ++ formatCopyB size ↔ ∃ i < 15, rc ∈ [fmtCellA i, fmtCellB size i] := by
  have hA : formatCopyA = (List.range 15).map fmtCellA := by decide
  have hB : formatCopyB size = (List.range 15).map (fmtCellB size) := by
    obtain ⟨n, rfl⟩ := Nat.exists_eq_add_of_le' h
    rfl
  simp only [hA, hB, List.mem_append, List.mem_map, List.mem_range, List.mem_cons, List.not_mem_nil, or_false,
    and_or_left, exists_or, eq_comm]

/-! The reserved cells. -/

/-- `(r, c)` is a cell of the format word, or from version 7 on of the version word (R276). -/
def IsReserved (ver size r c : Nat) : Prop :=
  (r, c) ∈ formatCopyA ++ formatCopyB size ∨ (7 ≤ ver ∧ ∃ i < 18, (r, c) ∈ versionCells size i)

theorem mem_reserveWrites {ver size : Nat} (h : 21 ≤ size) {r c : Nat} {d : Bool} :
    (r, c, d) ∈ reserveWrites ver size ↔
      ((r = size - 8 ∧ c = 8) ∧ d = true) ∨ (IsReserved ver size r c ∧ d = false) := by
  have hfmt : (r, c, d) ∈ fmtWrites size 0 ↔ (r, c) ∈ formatCopyA ++ formatCopyB size ∧ d = false := by
    simp only [mem_fmtWrites, mem_formatCopies h, BitVec.ofNat_eq_ofNat, BitVec.getLsbD_zero, ← and_assoc,
      exists_and_right]
  have hver : (r, c, d) ∈ (if 7 ≤ ver then verWrites size 0 else []) ↔
      (7 ≤ ver ∧ ∃ i < 18, (r, c) ∈ versionCells size i) ∧ d = false := by
    split
    · next h7 =>
      simp only [mem_verWrites, BitVec.ofNat_eq_ofNat, BitVec.getLsbD_zero, ← and_assoc, exists_and_right, h7, true_and]
    · next h7 => simp only [List.not_mem_nil, h7, false_and]
  rw [reserveWrites, List.mem_append, List.mem_append, List.mem_singleton, hfmt, hver, Prod.mk.injEq, Prod.mk.injEq,
    IsReserved, or_and_right, ← and_assoc]
  exact or_right_comm.trans or_comm

/-- The dark module is none of the reserved cells (R276). -/
theorem not_isReserved_dark {ver size : Nat} (h : 21 ≤ size) : ¬IsReserved ver size (size - 8) 8 := by
  rintro (hformat | ⟨-, i, hi, hversion⟩)
  · simp only [formatCopyA, formatCopyB, List.mem_append, List.mem_cons, List.not_mem_nil, or_false,
      Prod.mk.injEq] at hformat
    omega
  · simp only [versionCells, List.mem_cons, List.not_mem_nil, or_false, Prod.mk.injEq] at hversion
    omega

theorem moduleAt_mxReserveOp_of_reserved {s : State} (hv : 1 ≤ s.ver.toNat) {r c : Nat}
    (h : IsReserved s.ver.toNat s.size r c) : (mxReserveOp s).moduleAt r c = .function false := by
  have hmem {d : Bool} := mem_reserveWrites (ver := s.ver.toNat) (State.le_size hv) (r := r) (c := c) (d := d)
  rw [mxReserveOp, moduleAt_setFn_writeFuncs, lastWrite_of_mem (hmem.2 (.inr ⟨h, rfl⟩)), Option.elim_some]
  intro d hd
  rcases hmem.1 hd with ⟨⟨rfl, rfl⟩, -⟩ | ⟨-, hd⟩
  · exact absurd h (not_isReserved_dark (State.le_size hv))
  · exact hd

theorem moduleAt_mxReserveOp_dark {s : State} (hv : 1 ≤ s.ver.toNat) :
    (mxReserveOp s).moduleAt (s.size - 8) 8 = .function true := by
  have hsize := State.le_size hv
  rw [mxReserveOp, moduleAt_setFn_writeFuncs, lastWrite_of_mem ((mem_reserveWrites hsize).2 (.inl ⟨⟨rfl, rfl⟩, rfl⟩)),
    Option.elim_some]
  intro d hd
  rcases (mem_reserveWrites hsize).1 hd with ⟨-, hd⟩ | ⟨h, -⟩
  · exact hd
  · exact absurd h (not_isReserved_dark hsize)

theorem moduleAt_mxReserveOp_of_other {s : State} (hv : 1 ≤ s.ver.toNat) {r c : Nat} (hdark : ¬(r = s.size - 8 ∧ c = 8))
    (h : ¬IsReserved s.ver.toNat s.size r c) : (mxReserveOp s).moduleAt r c = s.moduleAt r c := by
  rw [mxReserveOp, moduleAt_setFn_writeFuncs, lastWrite_of_not_mem, Option.elim_none]
  intro d hd
  rcases (mem_reserveWrites (State.le_size hv)).1 hd with ⟨hat, -⟩ | ⟨hat, -⟩
  · exact hdark hat
  · exact h hat

/-! The four commands as one. -/

/-- `MX_FUNC` is one list of writes, of the four patterns in their order (R277). -/
theorem mxFuncOp_eq (s : State) :
    mxFuncOp s = setFn fnAll (writeFuncs (finderWrites s.size ++ timingWrites s.size
      ++ alignWrites s.size (alignAt s.params s.ver.toNat) ++ reserveWrites s.ver.toNat s.size) s) := by
  have hall : fnFinder ||| fnTiming ||| fnAlign ||| fnReserve = fnAll := by decide
  simp only [mxFuncOp, mxReserveOp, mxAlignOp, mxTimingOp, mxFinderOp, setFn_writeFuncs_setFn_writeFuncs, setFn_ver,
    writeFuncs_ver, setFn_params, writeFuncs_params, setFn_size, writeFuncs_size, hall]

theorem fnmask_or_fnAll (s : State) : s.fnmask ||| fnAll = 0b1111#4 := BitVec.or_allOnes

theorem execAll_placement {s : State} (hs : s.phase = .matrix) :
    execAll [.mxFinder, .mxTiming, .mxAlign, .mxReserve] s = .next (mxFuncOp s) := by
  have hfinder : (mxFinderOp s).phase = .matrix := (mxFinderOp_phase s).trans hs
  have htiming : (mxTimingOp (mxFinderOp s)).phase = .matrix := (mxTimingOp_phase _).trans hfinder
  have halign : (mxAlignOp (mxTimingOp (mxFinderOp s))).phase = .matrix := (mxAlignOp_phase _).trans htiming
  rw [execAll_cons (exec_mxFinder hs), execAll_cons (exec_mxTiming hfinder), execAll_cons (exec_mxAlign htiming),
    execAll_cons (exec_mxReserve halign), execAll, mxFuncOp]

/-- Settles O46: the dark module is no reserved cell, so no later write undoes an earlier one; the four commands in a
row are the operation `MX_FUNC` runs. -/
theorem reserveAndFunc : Obligations.ReserveAndFunc := by
  intro s hs hv
  refine ⟨⟨mxReserveOp s, exec_mxReserve hs, setFn_writeFuncs_frame .., fun rc hrc => ?format,
    moduleAt_mxReserveOp_dark hv, fun h7 i hi rc hrc => ?version, fun r c hformat hdark hversion => ?other⟩,
    mxFuncOp s, exec_mxFunc hs, execAll_placement hs, ?func⟩
  case format => exact moduleAt_mxReserveOp_of_reserved hv (.inl hrc)
  case version => exact moduleAt_mxReserveOp_of_reserved hv (.inr ⟨h7, i, hi, hrc⟩)
  case other =>
    refine moduleAt_mxReserveOp_of_other hv hdark ?_
    rintro (hrc | ⟨h7, i, hi, hrc⟩)
    · exact hformat hrc
    · exact hversion h7 i hi hrc
  case func =>
    rw [mxFuncOp_eq, ← fnmask_or_fnAll s]
    exact setFn_writeFuncs_frame ..

end Sys2Proof.Machine
end

section
/-! SUPPORT. The placer's position (R301 to R304): one move of `pl_next()` per case, `PL_START` and `PL_NEXT` as their
bodies, and `PlStartNext`. -/
namespace Sys2Proof.Machine

/-! The moves of `pl_next()` (R301). -/

theorem plNext_of_right {s : State} (hd : s.plDone = false) (hr : s.plSide = .right) :
    plNext s = { s with plSide := .left } := by
  rw [plNext, if_neg (by simp [hd]), if_pos hr]

theorem plNext_of_up {s : State} (hd : s.plDone = false) (hl : s.plSide = .left) (hu : s.plDir = .up)
    (h : 0 < s.plRow.toNat) : plNext s = { s with plRow := s.plRow - 1, plSide := .right } := by
  have hrow : s.plRow - 1#8 = BitVec.ofNat 8 (s.plRow.toNat - 1) := by
    rw [← BitVec.ofNat_sub_ofNat_of_le _ 1 (by decide) h, BitVec.ofNat_toNat, BitVec.setWidth_eq]
  rw [plNext, if_neg (by simp [hd]), if_neg (by simp [hl]), if_pos ⟨hu, h⟩, ← hrow]
  rfl

theorem plNext_of_down {s : State} (hd : s.plDone = false) (hl : s.plSide = .left) (hdown : s.plDir = .down)
    (h : s.plRow.toNat + 1 < s.size) : plNext s = { s with plRow := s.plRow + 1, plSide := .right } := by
  rw [plNext, if_neg (by simp [hd]), if_neg (by simp [hl]), if_neg (by simp [hdown]), if_pos ⟨hdown, h⟩,
    ofNat_toNat_succ]

/-- The left module of a pair's last row in the direction of travel. -/
def State.AtPairEnd (s : State) : Prop :=
  s.plSide = .left ∧ ((s.plDir = .up ∧ s.plRow = 0) ∨ (s.plDir = .down ∧ s.size - 1 ≤ s.plRow.toNat))

/-- At the end of a pair the traversal is over, or goes on in the next pair in the other direction. -/
theorem plNext_of_atPairEnd {s : State} (hd : s.plDone = false) (h : s.AtPairEnd) :
    plNext s = if s.plColpair = 1 then { s with plDone := true } else { s with
      plColpair := BitVec.ofNat 8 (nextPair s.plColpair.toNat), plDir := s.plDir.flip, plSide := .right } := by
  obtain ⟨hl, hend⟩ := h
  have hup : ¬(s.plDir = .up ∧ 0 < s.plRow.toNat) := by
    rintro ⟨hu, hrow⟩
    rcases hend with ⟨-, h0⟩ | ⟨hdown, -⟩
    · simp [h0] at hrow
    · simp [hu] at hdown
  have hdown : ¬(s.plDir = .down ∧ s.plRow.toNat + 1 < s.size) := by
    rintro ⟨hdown, hrow⟩
    rcases hend with ⟨hu, -⟩ | ⟨-, hlast⟩
    · simp [hu] at hdown
    · omega
  rw [plNext, if_neg (by simp [hd]), if_neg (by simp [hl]), if_neg hup, if_neg hdown]

theorem Dir.flip_eq (d : Dir) : d.flip = if d = .up then .down else .up := by cases d <;> rfl

/-- Pair 8 is followed by pair 5: column 6 belongs to no pair. -/
theorem ofNat_nextPair_eight : BitVec.ofNat 8 (nextPair (8 : BitVec 8).toNat) = 5 := by decide

theorem ofNat_nextPair {p : BitVec 8} (h8 : p ≠ 8) (h2 : 2 ≤ p.toNat) :
    BitVec.ofNat 8 (nextPair p.toNat) = p - 2 := by
  have hp : p.toNat ≠ 8 := fun h => h8 (BitVec.eq_of_toNat_eq h)
  rw [nextPair, if_neg hp, ← BitVec.ofNat_sub_ofNat_of_le _ 2 (by decide) h2, BitVec.ofNat_toNat, BitVec.setWidth_eq]
  rfl

/-! The two commands. -/

theorem plStartBody_of_missing_functions {s : State} (h : s.fnmask ≠ fnAll) :
    plStartBody s = .error .sequenceError := by
  rw [plStartBody, require_false h, error_bind]

theorem plStartBody_of_functions {s : State} (h : s.fnmask = fnAll) :
    plStartBody s = .ok { s with
      plRow := BitVec.ofNat 8 (s.size - 1), plColpair := BitVec.ofNat 8 (s.size - 1), plDir := .up, plSide := .right,
      plDone := false, bitpos := 0, phase := .placing } := by
  rw [plStartBody, require_true h, ok_bind]

/-- The last row and column fit their registers. -/
theorem toNat_ofNat_size_sub_one {s : State} (h : s.ver.toNat ≤ 40) :
    (BitVec.ofNat 8 (s.size - 1)).toNat = s.size - 1 := by
  rw [BitVec.toNat_ofNat, Nat.mod_eq_of_lt (Nat.lt_of_le_of_lt (Nat.sub_le ..) (State.size_lt h))]

theorem plNextBody_of_done {s : State} (h : s.plDone = true) : plNextBody s = .error .sequenceError := by
  rw [plNextBody, require_false (by simp [h]), error_bind]

theorem plNextBody_of_not_done {s : State} (h : s.plDone = false) : plNextBody s = .ok (plNext s) := by
  rw [plNextBody, require_true h, ok_bind]

/-- While the traversal is not over, `PL_NEXT` is `pl_next()` (R304). -/
theorem exec_plNext {s : State} (hs : s.phase = .placing) (hd : s.plDone = false) :
    exec .plNext s = .next (plNext s) :=
  exec_of_phase_ok hs rfl (plNextBody_of_not_done hd)

/-- Settles O49: each command is one check and one move; the moves of `pl_next()` are taken case by case. -/
theorem plStartNext : Obligations.PlStartNext := by
  refine fun s => ⟨fun hs hfn => ?missing, fun hs hfn hv => ?start, fun hs hd => ?done, fun hs hd => ?moves⟩
  case missing => exact raises_of_phase hs rfl (plStartBody_of_missing_functions hfn)
  case start =>
    exact ⟨_, exec_of_phase_ok hs rfl (plStartBody_of_functions hfn), rfl, toNat_ofNat_size_sub_one hv,
      toNat_ofNat_size_sub_one hv⟩
  case done => exact raises_of_phase hs rfl (plNextBody_of_done hd)
  case moves =>
    rw [exec_plNext hs hd, ← Dir.flip_eq]
    refine ⟨fun hr => ?right, fun hl hu hrow => ?up, fun hl hdown hrow => ?down, fun hl hend => ?pairEnd⟩
    case right => rw [plNext_of_right hd hr]
    case up => rw [plNext_of_up hd hl hu hrow]
    case down => rw [plNext_of_down hd hl hdown (by omega)]
    case pairEnd =>
      rw [plNext_of_atPairEnd hd ⟨hl, hend⟩]
      refine ⟨fun h1 => ?last, fun h8 => ?eight, fun h8 h2 => ?pair⟩
      case last => rw [if_pos h1]
      case eight => rw [if_neg (by simp [h8]), h8, ofNat_nextPair_eight]
      case pair =>
        have h1 : s.plColpair ≠ 1 := fun h => by simp [h] at h2
        rw [if_neg h1, ofNat_nextPair h8 h2]

end Sys2Proof.Machine
end

section
/-! SUPPORT. `PL_RUN` (R306). Every `pl_bit()` fills one of the `Unset` modules in use, so the loop of `PL_RUN` needs no
more rounds than there are of them, and a run may be cut after its first round: `PlRun`. -/
namespace Sys2Proof.Machine

/-! The position stays in the grid. -/

/-- The placer's row and column pair lie in the grid (R37). -/
def State.PositionInGrid (s : State) : Prop := s.plRow.toNat < s.size ∧ s.plColpair.toNat < s.size

theorem PlacerCoherent.positionInGrid {s : State} (h : PlacerCoherent s) (hs : s.phase = .placing) :
    s.PositionInGrid :=
  have ⟨hrow, _, hpair, _⟩ := h.1 hs
  ⟨hrow, hpair⟩

theorem plCol_lt {s : State} (h : s.PositionInGrid) : s.plCol < s.size := Nat.lt_of_le_of_lt (Nat.sub_le ..) h.2

theorem nextPair_le (p : Nat) : nextPair p ≤ p := by rw [nextPair]; split <;> omega

/-- A register written with a number below `n` holds one. -/
theorem toNat_ofNat_lt {k x n : Nat} (h : x < n) : (BitVec.ofNat k x).toNat < n := by
  rw [BitVec.toNat_ofNat]
  exact Nat.lt_of_le_of_lt (Nat.mod_le ..) h

theorem positionInGrid_plNext {s : State} (h : s.PositionInGrid) : (plNext s).PositionInGrid := by
  obtain ⟨hrow, hpair⟩ := h
  rw [State.PositionInGrid, plNext_size, plNext]
  split
  · exact ⟨hrow, hpair⟩
  split
  · exact ⟨hrow, hpair⟩
  split
  · exact ⟨toNat_ofNat_lt (Nat.lt_of_le_of_lt (Nat.sub_le ..) hrow), hpair⟩
  split
  · next hdown => exact ⟨toNat_ofNat_lt hdown.2, hpair⟩
  split
  · exact ⟨hrow, hpair⟩
  · exact ⟨hrow, toNat_ofNat_lt (Nat.lt_of_le_of_lt (nextPair_le _) hpair)⟩

/-- What every `pl_next()` keeps, the skipping loop keeps (R305). -/
theorem plSkip_keeps {P : State → Prop} (hP : ∀ s, P s → P (plNext s)) (fuel : Nat) {s : State} (h : P s) :
    P (plSkip fuel s) := by
  induction fuel generalizing s with
  | zero => exact h
  | succ fuel ih =>
    rw [plSkip]
    split
    · exact ih (hP s h)
    · exact h

@[simp] theorem plSkip_size (fuel : Nat) (s : State) : (plSkip fuel s).size = s.size :=
  plSkip_keeps (P := fun t => t.size = s.size) (fun t h => (plNext_size t).trans h) fuel rfl

/-! The `Unset` modules in use. -/

/-- The coordinates of a grid of `n` rows of `n` modules. -/
def gridCells (n : Nat) : List (Nat × Nat) := (List.range n).flatMap fun r => (List.range n).map fun c => (r, c)

theorem mem_gridCells {n r c : Nat} : (r, c) ∈ gridCells n ↔ r < n ∧ c < n := by
  simp [gridCells]

theorem length_gridCells (n : Nat) : (gridCells n).length = n * n := by
  simp only [gridCells, List.length_flatMap, List.length_map, List.length_range, List.map_const',
    List.sum_replicate_nat]

/-- How many modules in use are `Unset`. -/
def State.unsetCount (s : State) : Nat := (gridCells s.size).countP fun rc => s.moduleAt rc.1 rc.2 = .unset

theorem unsetCount_le (s : State) : s.unsetCount ≤ s.size * s.size :=
  length_gridCells s.size ▸ List.countP_le_length

@[simp] theorem plNext_moduleAt (s : State) (r c : Nat) : (plNext s).moduleAt r c = s.moduleAt r c := by
  rw [State.moduleAt, plNext_grid, State.moduleAt]

@[simp] theorem unsetCount_plNext (s : State) : (plNext s).unsetCount = s.unsetCount := by
  rw [State.unsetCount, State.unsetCount, plNext_size]
  refine List.countP_congr fun rc _ => ?_
  rw [decide_eq_true_eq, decide_eq_true_eq, plNext_moduleAt]

@[simp] theorem unsetCount_plSkip (fuel : Nat) (s : State) : (plSkip fuel s).unsetCount = s.unsetCount :=
  plSkip_keeps (P := fun t => t.unsetCount = s.unsetCount) (fun t h => (unsetCount_plNext t).trans h) fuel rfl

/-- A condition that holds wherever another does, and at some element where the other does not, counts more. -/
theorem countP_lt_countP {α : Type} {p q : α → Bool} {l : List α} {a : α} (ha : a ∈ l) (hp : p a = false)
    (hq : q a = true) (himp : ∀ x, p x = true → q x = true) : l.countP p < l.countP q := by
  obtain ⟨l₁, l₂, rfl⟩ := List.append_of_mem ha
  have h₁ : l₁.countP p ≤ l₁.countP q := List.countP_mono_left fun x _ => himp x
  have h₂ : l₂.countP p ≤ l₂.countP q := List.countP_mono_left fun x _ => himp x
  have hpa : (a :: l₂).countP p = l₂.countP p := List.countP_cons_of_neg (by rw [hp]; decide)
  have hqa : (a :: l₂).countP q = l₂.countP q + 1 := List.countP_cons_of_pos hq
  rw [List.countP_append, List.countP_append, hpa, hqa]
  omega

/-! One `pl_bit()`. -/

/-- The next bit of the stream in the module at the placer's position, and counted (R305). -/
def State.withBit (s : State) : State :=
  { s with
    grid := gridSet s.grid s.plRow.toNat s.plCol (.data (s.streamBit s.bitpos.toNat))
    bitpos := BitVec.ofNat 15 (s.bitpos.toNat + 1) }

@[simp] theorem withBit_size (s : State) : s.withBit.size = s.size := rfl

theorem moduleAt_withBit (s : State) (r c : Nat) :
    s.withBit.moduleAt r c =
      if r = s.plRow.toNat ∧ c = s.plCol then .data (s.streamBit s.bitpos.toNat) else s.moduleAt r c :=
  gridAt_gridSet ..

theorem unsetCount_withBit_lt {s : State} (h : s.PositionInGrid) (hunset : s.plModule = .unset) :
    s.withBit.unsetCount < s.unsetCount := by
  have hmem : (s.plRow.toNat, s.plCol) ∈ gridCells s.size := mem_gridCells.2 ⟨h.1, plCol_lt h⟩
  refine countP_lt_countP hmem (decide_eq_false ?filled) (decide_eq_true hunset) fun rc hrc => ?other
  case filled =>
    rw [moduleAt_withBit, if_pos ⟨rfl, rfl⟩]
    exact Module.noConfusion
  case other =>
    have hrc := of_decide_eq_true hrc
    rw [moduleAt_withBit] at hrc
    split at hrc
    · cases hrc
    · exact decide_eq_true hrc

/-- What `plPlace` can do: the bit placed and one move, in the phase the bit's number asks for, or the error. -/
theorem plPlace_cases {s : State} {x : Except ErrCode State} (h : plPlace s = x) :
    (∃ p, x = .ok { plNext s.withBit with phase := p }) ∨ x = .error .invariantViolation := by
  subst h
  unfold plPlace
  extract_lets s1
  split
  · rw [require_bind]
    split
    · exact .inl ⟨_, rfl⟩
    · exact .inr rfl
  · exact .inl ⟨s1.phase, rfl⟩

/-- What `pl_bit()` can do: skip to an `Unset` module, place the bit there and move on, or raise
`InvariantViolation`. -/
theorem plBitBody_cases (s : State) :
    (∃ p u, u = plSkip (s.size * s.size) s ∧ u.plModule = .unset ∧
      plBitBody s = .ok { plNext u.withBit with phase := p }) ∨
    plBitBody s = .error .invariantViolation := by
  rw [plBitBody, require_bind]
  split
  · next hfound =>
    rcases plPlace_cases rfl with ⟨p, hok⟩ | herr
    · exact .inl ⟨p, _, rfl, hfound.2, hok⟩
    · exact .inr herr
  · exact .inr rfl

/-- A `pl_bit()` that raises nothing keeps the position in the grid and leaves one `Unset` module fewer. -/
theorem plBitBody_progress {s t : State} (h : s.PositionInGrid) (ht : plBitBody s = .ok t) :
    t.size = s.size ∧ t.PositionInGrid ∧ t.unsetCount < s.unsetCount := by
  rcases plBitBody_cases s with ⟨p, u, hskip, hunset, hok⟩ | herr
  · obtain rfl := Except.ok.inj (hok.symm.trans ht)
    have hsize : u.size = s.size := hskip ▸ plSkip_size _ s
    have hu : u.PositionInGrid :=
      hskip ▸ plSkip_keeps (P := State.PositionInGrid) (fun _ => positionInGrid_plNext) _ h
    refine ⟨(plNext_size u.withBit).trans hsize, positionInGrid_plNext (s := u.withBit) hu, ?_⟩
    calc (plNext u.withBit).unsetCount
      _ = u.withBit.unsetCount := unsetCount_plNext _
      _ < u.unsetCount := unsetCount_withBit_lt hu hunset
      _ = s.unsetCount := by rw [hskip, unsetCount_plSkip]
  · cases herr.symm.trans ht

/-- With no `Unset` module left, `pl_bit()` finds none. -/
theorem plBitBody_of_unsetCount_eq_zero {s : State} (h : s.PositionInGrid) (h0 : s.unsetCount = 0) :
    plBitBody s = .error .invariantViolation := by
  rcases plBitBody_cases s with ⟨p, u, -, -, hok⟩ | herr
  · obtain ⟨-, -, hlt⟩ := plBitBody_progress h hok
    omega
  · exact herr

/-! The loop of `PL_RUN`. -/

theorem plRunLoop_of_not_placing (fuel : Nat) {s : State} (h : s.phase ≠ .placing) : plRunLoop fuel s = .ok s := by
  cases fuel <;> exact if_neg h

theorem plRunLoop_zero_of_placing {s : State} (h : s.phase = .placing) :
    plRunLoop 0 s = .error .invariantViolation := if_pos h

theorem plRunLoop_succ_of_placing (fuel : Nat) {s : State} (h : s.phase = .placing) :
    plRunLoop (fuel + 1) s = plBitBody s >>= plRunLoop fuel := if_pos h

/-- With as many rounds as there are `Unset` modules, more rounds change nothing: after them `pl_bit()` finds no module
and raises the error the loop raises when it is out of rounds. -/
theorem plRunLoop_eq_of_unsetCount_le {n m : Nat} {s : State} (h : s.PositionInGrid) (hn : s.unsetCount ≤ n)
    (hm : n ≤ m) : plRunLoop m s = plRunLoop n s := by
  induction n generalizing m s with
  | zero =>
    by_cases hs : s.phase = .placing
    · cases m with
      | zero => rfl
      | succ m =>
        rw [plRunLoop_succ_of_placing m hs, plRunLoop_zero_of_placing hs,
          plBitBody_of_unsetCount_eq_zero h (Nat.eq_zero_of_le_zero hn), error_bind]
    · rw [plRunLoop_of_not_placing m hs, plRunLoop_of_not_placing 0 hs]
  | succ n ih =>
    obtain ⟨m, rfl⟩ : ∃ k, m = k + 1 := ⟨m - 1, by omega⟩
    by_cases hs : s.phase = .placing
    · rw [plRunLoop_succ_of_placing m hs, plRunLoop_succ_of_placing n hs]
      cases hb : plBitBody s with
      | ok t =>
        obtain ⟨-, ht, hlt⟩ := plBitBody_progress h hb
        exact ih ht (by omega) (by omega)
      | error e => rfl
    · rw [plRunLoop_of_not_placing (m + 1) hs, plRunLoop_of_not_placing (n + 1) hs]

/-! The body of `PL_RUN`. -/

theorem plRunBody_of_matrix {s : State} (hs : s.phase = .matrix) :
    plRunBody s = plStartBody s >>= fun u => plRunLoop (u.size * u.size) u := by
  unfold plRunBody
  rw [if_pos hs]

theorem plRunBody_of_placing {s : State} (hs : s.phase = .placing) :
    plRunBody s = plRunLoop (s.size * s.size) s := by
  unfold plRunBody
  rw [if_neg (by simp [hs])]
  rfl

/-- In `PLACING`, `PL_RUN` begins with one `pl_bit()`; a grid has modules. -/
theorem plRunBody_eq_bind {s : State} (hs : s.phase = .placing) (hv : 1 ≤ s.ver.toNat) :
    plRunBody s = plBitBody s >>= plRunLoop (s.size * s.size - 1) := by
  have hsize : 21 ≤ s.size := State.le_size hv
  have hpos : 0 < s.size * s.size := Nat.mul_pos (by omega) (by omega)
  rw [plRunBody_of_placing hs, ← plRunLoop_succ_of_placing _ hs, Nat.sub_add_cancel hpos]

/-- The rounds left after one `pl_bit()` are enough: going on is the whole loop from there. -/
theorem plRunBody_of_plBitBody {s u : State} (hs : s.phase = .placing) (hv : 1 ≤ s.ver.toNat)
    (hpos : s.PositionInGrid) (hb : plBitBody s = .ok u) : plRunBody s = plRunLoop (u.size * u.size) u := by
  obtain ⟨hsize, hu, hlt⟩ := plBitBody_progress hpos hb
  have hcount := unsetCount_le s
  rw [plRunBody_eq_bind hs hv, hb, ok_bind, hsize]
  exact (plRunLoop_eq_of_unsetCount_le hu (by omega) (by omega)).symm

/-! The command. -/

/-- In its phases `PL_RUN` is its body (R47). -/
theorem exec_plRun {s : State} (hs : s.phase = .matrix ∨ s.phase = .placing) :
    exec .plRun s = settle (encode .plRun) s (plRunBody s) := by
  rcases hs with hs | hs <;> exact exec_of_phase hs rfl (by decide)

/-- `PL_RUN` ends in `PLACED`, or raises (R306). -/
theorem exec_plRun_cases {s t : State} (hs : s.phase = .matrix ∨ s.phase = .placing)
    (h : exec .plRun s = .next t) :
    (t.phase = .placed ∧ plRunBody s = .ok t) ∨
    (∃ e, plRunBody s = .error e ∧ t = raise e (encode .plRun) s) := by
  have hl : legalIn .plRun s.phase = true := by rcases hs with hs | hs <;> rw [hs] <;> rfl
  rw [exec_plRun hs] at h
  cases hb : plRunBody s with
  | ok u =>
    obtain rfl : u = t := by rwa [hb, settle_ok, Host.Outcome.next.injEq] at h
    exact .inl ⟨plRunBody_phase hl u hb, rfl⟩
  | error e => exact .inr ⟨e, rfl, by rwa [hb, settle_error, Host.Outcome.next.injEq, eq_comm] at h⟩

/-- When the body of `PL_RUN` answers the same from two states, so does the command, but for the state an error leaves:
it is the state the command began in. -/
theorem exec_plRun_of_body_eq {s u t : State} (hs : s.phase = .matrix ∨ s.phase = .placing) (hu : u.phase = .placing)
    (hbody : plRunBody s = plRunBody u) (h : exec .plRun u = .next t) :
    (t.phase = .placed → exec .plRun s = .next t) ∧ (t.phase = .error → Raises .plRun s t.err) := by
  rcases exec_plRun_cases (.inr hu) h with ⟨hp, hok⟩ | ⟨e, herr, rfl⟩
  · exact ⟨fun _ => by rw [exec_plRun hs, hbody, hok, settle_ok], fun he => by simp [hp] at he⟩
  · exact ⟨fun hp => by simp at hp, fun _ => by rw [Raises, exec_plRun hs, hbody, herr]; rfl⟩

/-- `PL_RUN` after a `PL_BIT`: an error of the bit is its own error, the last bit ends it, and else it goes on. -/
theorem exec_plRun_of_exec_plBit {s u : State} (hs : s.phase = .placing) (hv : 1 ≤ s.ver.toNat)
    (hpos : s.PositionInGrid) (h : exec .plBit s = .next u) :
    (u.phase = .error → Raises .plRun s u.err) ∧ (u.phase = .placed → exec .plRun s = .next u) ∧
    (u.phase = .placing → plRunBody s = plRunBody u) := by
  rw [exec_of_phase hs rfl (by decide), bodyOf] at h
  cases hb : plBitBody s with
  | error e =>
    obtain rfl : raise e (encode .plBit) s = u := by rwa [hb, settle_error, Host.Outcome.next.injEq] at h
    have hbody : plRunBody s = .error e := by rw [plRunBody_eq_bind hs hv, hb, error_bind]
    exact ⟨fun _ => raises_of_phase hs rfl hbody, fun hp => by simp at hp, fun hp => by simp at hp⟩
  | ok v =>
    obtain rfl : v = u := by rwa [hb, settle_ok, Host.Outcome.next.injEq] at h
    have hbody := plRunBody_of_plBitBody hs hv hpos hb
    refine ⟨fun he => ?_, fun hp => ?_, fun hp => hbody.trans (plRunBody_of_placing hp).symm⟩
    · have hphase : v.phase = if v.bitpos.toNat = v.slen then .placed else .placing := plBitBody_phase hs v hb
      rw [he] at hphase
      split at hphase <;> cases hphase
    · exact exec_of_phase_ok hs rfl (hbody.trans (plRunLoop_of_not_placing _ (by simp [hp])))

/-- Settles O52: the body from `MATRIX` is the loop from where `PL_START` leads, and the loop is one `pl_bit()` and the
loop again, since the rounds left are no fewer than the `Unset` modules left. -/
theorem plRun : Obligations.PlRun := by
  refine fun s hv _ => ⟨fun hs hfn => ?missing, fun u t hs hstart hu hrun => ?matrix,
    fun u hs hcoh hbit => ?placing, fun t hs h => ?phase⟩
  case missing =>
    refine raises_of_phase hs rfl ?_
    rw [bodyOf, plRunBody_of_matrix hs, plStartBody_of_missing_functions hfn, error_bind]
  case matrix =>
    have hstart' : plStartBody s = .ok u := (exec_succeeds hstart (by simp [hs]) (by simp [hu])).2
    refine exec_plRun_of_body_eq (.inl hs) hu ?_ hrun
    rw [plRunBody_of_matrix hs, hstart', ok_bind, plRunBody_of_placing hu]
  case placing =>
    obtain ⟨herror, hplaced, hplacing⟩ := exec_plRun_of_exec_plBit hs hv (hcoh.positionInGrid hs) hbit
    exact ⟨herror, hplaced, fun hu t hrun => exec_plRun_of_body_eq (.inr hs) hu (hplacing hu) hrun⟩
  case phase =>
    rcases exec_plRun_cases hs h with ⟨hp, -⟩ | ⟨e, -, rfl⟩
    · exact .inl hp
    · exact .inr rfl

end Sys2Proof.Machine
end

section
/-! SUPPORT. `MK_BIT` and `MK_TRIAL` (R323, R335): each is one check and one write of `RES`, and `MaskQueries`. -/
namespace Sys2Proof.Machine

theorem mkBitBody_of_bad_mask {m : Byte} (row col : Byte) (s : State) (h : 7 < m.toNat) :
    mkBitBody m row col s = .error .operandRange := by
  rw [mkBitBody, require_false (Nat.not_le.mpr h), error_bind]

theorem mkBitBody_of_mask {m : Byte} (row col : Byte) (s : State) (h : m.toNat ≤ 7) :
    mkBitBody m row col s = .ok (setRes (zext32 (maskBit m.toNat row.toNat col.toNat).toNat) s) := by
  rw [mkBitBody, require_true h, ok_bind]

/-- `MK_BIT` answers 1 or 0 as the condition its mask stands for holds or fails. -/
theorem exec_mkBit_answers {m row col : Byte} {s : State} {cond : Prop} [Decidable cond] (hs : s.phase ≠ .error)
    (hm : m.toNat ≤ 7) (hcond : maskBit m.toNat row.toNat col.toNat = decide cond) :
    (cond → exec (.mkBit m row col) s = .next { s with res := 1 }) ∧
    (¬cond → exec (.mkBit m row col) s = .next { s with res := 0 }) := by
  have hexec := exec_of_body_ok (i := .mkBit m row col) (fun _ => rfl) hs (mkBitBody_of_mask row col s hm)
  rw [hexec, hcond]
  exact ⟨fun h => by rw [decide_eq_true h]; rfl, fun h => by rw [decide_eq_false h]; rfl⟩

theorem mkTrialBody_of_bad_mask {m : Byte} (s : State) (h : 7 < m.toNat) :
    mkTrialBody m s = .error .operandRange := dif_neg (Nat.not_lt.mpr h)

theorem mkTrialBody_of_mask {m : Byte} (s : State) (h : m.toNat < 8) :
    mkTrialBody m s = .ok (setRes s.trial[m.toNat] s) := dif_pos h

/-- Settles O54: the mask bit of each of the eight masks is its condition, and both commands check the index first. -/
theorem maskQueries : Obligations.MaskQueries := by
  refine fun m row col s => ⟨fun hs hm => ?badMask, fun hs => ⟨?m0, ?m1, ?m2, ?m3, ?m4, ?m5, ?m6, ?m7⟩,
    fun hs => ⟨fun hm => ?badTrial, fun hm => ?trial⟩⟩
  case badMask => exact raises_of_body_error (fun _ => rfl) hs (mkBitBody_of_bad_mask row col s hm)
  case m0 | m1 | m2 | m3 | m4 | m5 | m6 | m7 =>
    rintro rfl
    exact exec_mkBit_answers hs (by decide) rfl
  case badTrial => rcases hs with hs | hs <;> exact raises_of_phase hs rfl (mkTrialBody_of_bad_mask s hm)
  case trial => rcases hs with hs | hs <;> exact exec_of_phase_ok hs rfl (mkTrialBody_of_mask s hm)

end Sys2Proof.Machine
end

section
/-! SUPPORT. Masks as operations on a square grid (R321): involutions that commute and leave function modules alone, and
`MkApply` (R322). -/
namespace Sys2Proof.Machine

/-! Masks. -/

@[simp] theorem flipModule_flipModule_same (b : Bool) (x : Module) : flipModule b (flipModule b x) = x := by
  cases x <;> simp [flipModule]

theorem flipModule_comm (a b : Bool) (x : Module) :
    flipModule a (flipModule b x) = flipModule b (flipModule a x) := by
  cases x <;> simp [flipModule, Bool.xor_comm a b]

/-- Masks are involutions. -/
theorem flipGrid_flipGrid_same {n : Nat} (m : Nat) {g : List (List Module)} (h : Square n g) :
    flipGrid n m (flipGrid n m g) = g := by
  refine square_ext (square_flipGrid (square_flipGrid h)) h fun r hr c hc => ?_
  rw [gridAt_flipGrid (square_flipGrid h), if_pos ⟨hr, hc⟩, gridAt_flipGrid h, if_pos ⟨hr, hc⟩,
    flipModule_flipModule_same]

theorem flipGrid_comm {n : Nat} (a b : Nat) {g : List (List Module)} (h : Square n g) :
    flipGrid n a (flipGrid n b g) = flipGrid n b (flipGrid n a g) := by
  refine square_ext (square_flipGrid (square_flipGrid h)) (square_flipGrid (square_flipGrid h)) fun r hr c hc => ?_
  simp only [gridAt_flipGrid h, gridAt_flipGrid (square_flipGrid h), if_pos (And.intro hr hc)]
  exact flipModule_comm ..

/-- A mask inverts a data module in the grid where its bit is set. -/
theorem gridAt_flipGrid_of_data {n m : Nat} {g : List (List Module)} (h : Square n g) {r c : Nat} {d : Bool}
    (hd : gridAt g r c = .data d) :
    gridAt (flipGrid n m g) r c = .data (if r < n ∧ c < n ∧ maskBit m r c = true then !d else d) := by
  rw [gridAt_flipGrid h, hd]
  by_cases hin : r < n ∧ c < n
  · cases hb : maskBit m r c <;> simp [hin, flipModule]
  · rw [if_neg hin, if_neg fun hh => hin ⟨hh.1, hh.2.1⟩]

/-- A mask leaves every other module alone. -/
theorem gridAt_flipGrid_of_not_data {n m : Nat} {g : List (List Module)} (h : Square n g) {r c : Nat}
    (hd : ∀ d, gridAt g r c ≠ .data d) : gridAt (flipGrid n m g) r c = gridAt g r c := by
  rw [gridAt_flipGrid h]
  cases hx : gridAt g r c with
  | data d => exact absurd hx (hd d)
  | function d => exact ite_self _
  | unset => exact ite_self _

/-! The command. -/

theorem mkApplyBody_of_bad_mask {m : Byte} (s : State) (h : 7 < m.toNat) :
    mkApplyBody m s = .error .operandRange := by
  rw [mkApplyBody, require_false (Nat.not_le.mpr h), error_bind]

theorem mkApplyBody_of_none {m : Byte} {s : State} (h : m.toNat ≤ 7) (hs : s.applied = none) :
    mkApplyBody m s =
      .ok { s with grid := flipGrid s.size m.toNat s.grid, applied := some (BitVec.ofNat 3 m.toNat) } := by
  rw [mkApplyBody, require_true h, ok_bind, hs]

theorem mkApplyBody_of_same {m : Byte} {s : State} {a : BitVec 3} (h : m.toNat ≤ 7) (hs : s.applied = some a)
    (ha : a.toNat = m.toNat) :
    mkApplyBody m s = .ok { s with grid := flipGrid s.size m.toNat s.grid, applied := none } := by
  rw [mkApplyBody, require_true h, ok_bind, hs]
  exact if_pos ha

theorem mkApplyBody_of_other {m : Byte} {s : State} {a : BitVec 3} (h : m.toNat ≤ 7) (hs : s.applied = some a)
    (ha : a.toNat ≠ m.toNat) : mkApplyBody m s = .error .sequenceError := by
  rw [mkApplyBody, require_true h, ok_bind, hs]
  exact if_neg ha

theorem appliedCode_ofNat {n : Nat} (h : n ≤ 7) : appliedCode (some (BitVec.ofNat 3 n)) = n :=
  BitVec.toNat_ofNat n 3 |>.trans (Nat.mod_eq_of_lt (Nat.lt_succ_of_le h))

/-- `APPLIED` reads as a mask index only with that mask in: the code of none is 8 (R39). -/
theorem exists_applied_of_appliedCode {a : Option (BitVec 3)} {n : Nat} (h : n ≤ 7) (ha : appliedCode a = n) :
    ∃ k, a = some k ∧ k.toNat = n := by
  cases a with
  | none => exact absurd ha (Nat.ne_of_gt (Nat.lt_succ_of_le h))
  | some k => exact ⟨k, rfl, ha⟩

/-- Settles O55: the body's cases by `APPLIED`, and the mask module by module. -/
theorem mkApply : Obligations.MkApply := by
  refine ⟨fun m s hs hsq => ?command, fun n a b g hsq => ⟨flipGrid_flipGrid_same a hsq, flipGrid_comm a b hsq⟩⟩
  intro flipped
  have hflip (t : State) (ht : t.grid = flipGrid s.size m.toNat s.grid) : flipped t := by
    intro r c
    rw [State.moduleAt, ht]
    split
    · next hd => exact gridAt_flipGrid_of_data hsq hd
    · next hd => exact gridAt_flipGrid_of_not_data hsq hd
  refine ⟨fun hm => ?badMask, fun hm ha => ?apply, fun hm ha => ?takeOff, fun hm hne ha => ?other⟩
  case badMask => exact raises_of_phase hs rfl (mkApplyBody_of_bad_mask s hm)
  case apply =>
    exact ⟨_, exec_of_phase_ok hs rfl (mkApplyBody_of_none hm ha), rfl, appliedCode_ofNat hm, hflip _ rfl⟩
  case takeOff =>
    obtain ⟨k, hk, hkm⟩ := exists_applied_of_appliedCode hm ha
    exact ⟨_, exec_of_phase_ok hs rfl (mkApplyBody_of_same hm hk hkm), rfl, hflip _ rfl⟩
  case other =>
    obtain ⟨k, hk⟩ := Option.ne_none_iff_exists'.mp hne
    rw [hk] at ha
    exact raises_of_phase hs rfl (mkApplyBody_of_other hm hk ha)

end Sys2Proof.Machine
end

section
/-! SUPPORT. Bounds of the penalty (R331), coarse ones: enough for a score to fit a 32-bit word. -/
namespace Sys2Proof.Machine

theorem sum_map_le_sum_map {α : Type} {l : List α} {f g : α → Nat} (h : ∀ x ∈ l, f x ≤ g x) :
    (l.map f).sum ≤ (l.map g).sum := by
  induction l with
  | nil => exact Nat.le_refl _
  | cons x xs ih =>
    rw [List.map_cons, List.map_cons, List.sum_cons, List.sum_cons]
    exact Nat.add_le_add (h x List.mem_cons_self) (ih fun y hy => h y (List.mem_cons_of_mem x hy))

theorem sum_map_le_length_mul {α : Type} {l : List α} {f : α → Nat} {k : Nat} (h : ∀ x ∈ l, f x ≤ k) :
    (l.map f).sum ≤ l.length * k :=
  calc (l.map f).sum
    _ ≤ (l.map fun _ => k).sum := sum_map_le_sum_map h
    _ = l.length * k := by rw [List.map_const', List.sum_replicate_nat]

theorem length_penaltyLines (size : Nat) (g : List (List Module)) : (penaltyLines size g).length = 2 * size := by
  simp [penaltyLines, Nat.two_mul]

theorem length_of_mem_penaltyLines {size : Nat} {g : List (List Module)} {line : List Bool}
    (h : line ∈ penaltyLines size g) : line.length = size := by
  simp only [penaltyLines, List.mem_append, List.mem_map] at h
  rcases h with ⟨_, _, rfl⟩ | ⟨_, _, rfl⟩ <;> simp [darkRow, darkCol]

/-- The runs of a line are its length together. -/
theorem sum_runsFrom (c : Bool) (n : Nat) (line : List Bool) : (runsFrom c n line).sum = n + line.length := by
  induction line generalizing c n with
  | nil => rfl
  | cons x xs ih =>
    rw [runsFrom, List.length_cons]
    split
    · rw [ih]; omega
    · rw [List.sum_cons, ih]; omega

theorem sum_runs (line : List Bool) : (runs line).sum = line.length := by
  cases line with
  | nil => rfl
  | cons x xs => rw [runs, sum_runsFrom, List.length_cons, Nat.add_comm]

theorem runScore_le (len : Nat) : runScore len ≤ len := by
  rw [runScore]; split <;> omega

theorem lineN1_le_length (line : List Bool) : lineN1 line ≤ line.length :=
  calc ((runs line).map runScore).sum
    _ ≤ ((runs line).map id).sum := sum_map_le_sum_map fun len _ => runScore_le len
    _ = line.length := by rw [List.map_id, sum_runs]

/-- What adds at most its length for each line adds at most twice the number of modules. -/
theorem sum_penaltyLines_le {f : List Bool → Nat} (h : ∀ line, f line ≤ line.length) (size : Nat)
    (g : List (List Module)) : ((penaltyLines size g).map f).sum ≤ 2 * size * size :=
  length_penaltyLines size g ▸ sum_map_le_length_mul fun line hline =>
    Nat.le_trans (h line) (Nat.le_of_eq (length_of_mem_penaltyLines hline))

theorem penaltyN1_le (size : Nat) (g : List (List Module)) : penaltyN1 size g ≤ 2 * size * size :=
  sum_penaltyLines_le lineN1_le_length size g

theorem penaltyN2_le (size : Nat) (g : List (List Module)) : penaltyN2 size g ≤ 3 * ((size - 1) * (size - 1)) := by
  have hrow (r : Nat) : ((List.range (size - 1)).filter (blockUniform g r)).length ≤ size - 1 :=
    Nat.le_trans (List.length_filter_le ..) (Nat.le_of_eq List.length_range)
  have hsum := sum_map_le_length_mul fun r (_ : r ∈ List.range (size - 1)) => hrow r
  rw [List.length_range] at hsum
  exact Nat.mul_le_mul_left 3 hsum

theorem lineHits_le_length (outside : Bool) (line : List Bool) : lineHits outside line ≤ line.length :=
  calc lineHits outside line
    _ ≤ (List.range (line.length - 6)).length := List.length_filter_le ..
    _ ≤ line.length := by rw [List.length_range]; exact Nat.sub_le ..

theorem penaltyN3_le (outside : Bool) (size : Nat) (g : List (List Module)) :
    penaltyN3 outside size g ≤ 40 * (2 * size * size) :=
  Nat.mul_le_mul_left 40 (sum_penaltyLines_le (lineHits_le_length outside) size g)

theorem darkCount_le (size : Nat) (g : List (List Module)) : darkCount size g ≤ size * size := by
  refine Nat.le_trans (sum_map_le_length_mul (k := size) fun r _ => ?_) (Nat.le_of_eq (by rw [List.length_range]))
  exact Nat.le_trans List.count_le_length (Nat.le_of_eq (by rw [darkRow, List.length_map, List.length_range]))

theorem balancePenalty_le (mode : N4Mode) {dark tot : Nat} (h : dark ≤ tot) : balancePenalty mode dark tot ≤ 100 := by
  cases mode with
  | exact =>
    have hdiff : absDiff (50 * tot) (100 * dark) ≤ 5 * tot * 10 := by rw [absDiff]; omega
    exact Nat.mul_le_mul_left 10 (Nat.div_le_of_le_mul hdiff)
  | floorPercent =>
    have hpercent : 100 * dark / tot ≤ 100 := Nat.div_le_of_le_mul (by omega)
    have hdiff : absDiff 50 (100 * dark / tot) ≤ 5 * 10 := by
      generalize 100 * dark / tot = percent at hpercent
      rw [absDiff]; omega
    exact Nat.mul_le_mul_left 10 (Nat.div_le_of_le_mul hdiff)

theorem penalty_le (p : Params) (size : Nat) (g : List (List Module)) : penalty p size g ≤ 85 * (size * size) + 100 := by
  have h1 := penaltyN1_le size g
  have h2 := penaltyN2_le size g
  have h3 := penaltyN3_le p.n3OutsideLight size g
  have h4 : penaltyN4 p.n4Mode size g ≤ 100 := balancePenalty_le _ (darkCount_le size g)
  have hmul : (size - 1) * (size - 1) ≤ size * size := Nat.mul_le_mul (Nat.sub_le ..) (Nat.sub_le ..)
  rw [Nat.mul_assoc] at h1 h3
  rw [penalty]
  omega

/-- A score fits its register: `SIZE` is at most 177 (R27, R334). -/
theorem toNat_zext32_penalty (p : Params) {size : Nat} (h : size < 2 ^ 8) (g : List (List Module)) :
    (zext32 (penalty p size g)).toNat = penalty p size g := by
  have hle := penalty_le p size g
  have hsq : size * size ≤ 2 ^ 8 * 2 ^ 8 := Nat.mul_le_mul (Nat.le_of_lt h) (Nat.le_of_lt h)
  exact BitVec.toNat_ofNat .. |>.trans (Nat.mod_eq_of_lt (by omega))

end Sys2Proof.Machine
end

section
/-! SUPPORT. Masks and format words on a grid (R321, R355): a mask leaves function modules alone, so the two commute, and
of two format words the later one stands. -/
namespace Sys2Proof.Machine

theorem not_mem_of_lastWrite_eq_none {ws : List FuncWrite} {r c : Nat} (h : lastWrite ws r c = none) (d : Bool) :
    (r, c, d) ∉ ws := by
  induction ws with
  | nil => exact List.not_mem_nil
  | cons w ws ih =>
    rw [← List.singleton_append, lastWrite_append, Option.or_eq_none_iff] at h
    obtain ⟨hws, hw⟩ := h
    intro hmem
    rcases List.mem_cons.mp hmem with rfl | hmem
    · simp [lastWrite] at hw
    · exact ih hws hmem

/-- Writes to cells that are all written again do not show. -/
theorem setFuncs_setFuncs_of_covered {n : Nat} {ws ws' : List FuncWrite} {g : List (List Module)} (hg : Square n g)
    (hws : ∀ w ∈ ws, w.1 < n ∧ w.2.1 < n) (hws' : ∀ w ∈ ws', w.1 < n ∧ w.2.1 < n)
    (hcov : ∀ r c d', (r, c, d') ∈ ws' → ∃ d, (r, c, d) ∈ ws) : setFuncs ws (setFuncs ws' g) = setFuncs ws g := by
  refine square_ext (square_setFuncs (square_setFuncs hg hws') hws) (square_setFuncs hg hws) fun r _ c _ => ?_
  rw [gridAt_setFuncs, gridAt_setFuncs ws]
  cases h : lastWrite ws r c with
  | some d => rfl
  | none =>
    refine gridAt_setFuncs_of_not_mem g ?_
    rintro ⟨r', c', d'⟩ hmem ⟨rfl, rfl⟩
    obtain ⟨d, hd⟩ := hcov r c d' hmem
    exact not_mem_of_lastWrite_eq_none h d hd

/-- A mask before writes of function modules is the mask after them. -/
theorem flipGrid_setFuncs {n : Nat} (m : Nat) {ws : List FuncWrite} {g : List (List Module)} (hg : Square n g)
    (hws : ∀ w ∈ ws, w.1 < n ∧ w.2.1 < n) : flipGrid n m (setFuncs ws g) = setFuncs ws (flipGrid n m g) := by
  have hsq := square_setFuncs hg hws
  refine square_ext (square_flipGrid hsq) (square_setFuncs (square_flipGrid hg) hws) fun r hr c hc => ?_
  rw [gridAt_flipGrid hsq, if_pos ⟨hr, hc⟩, gridAt_setFuncs, gridAt_setFuncs, gridAt_flipGrid hg, if_pos ⟨hr, hc⟩]
  cases lastWrite ws r c <;> rfl

/-! The format word. -/

theorem fmtCellA_inside {size i : Nat} (h : 21 ≤ size) (hi : i < 15) :
    (fmtCellA i).1 < size ∧ (fmtCellA i).2 < size := by
  unfold fmtCellA
  repeat' split
  all_goals dsimp only; omega

theorem fmtCellB_inside {size i : Nat} (h : 21 ≤ size) (hi : i < 15) :
    (fmtCellB size i).1 < size ∧ (fmtCellB size i).2 < size := by
  unfold fmtCellB
  repeat' split
  all_goals dsimp only; omega

theorem fmtWrites_inside {size : Nat} (h : 21 ≤ size) (w : BitVec 15) :
    ∀ x ∈ fmtWrites size w, x.1 < size ∧ x.2.1 < size := by
  rintro ⟨r, c, d⟩ hmem
  obtain ⟨i, hi, hcell, -⟩ := mem_fmtWrites.mp hmem
  rcases List.mem_cons.mp hcell with hA | hB
  · have := fmtCellA_inside h hi
    rwa [← hA] at this
  · have := fmtCellB_inside h hi
    rwa [← List.mem_singleton.mp hB] at this

theorem square_writeFmt {size : Nat} (h : 21 ≤ size) (w : BitVec 15) {g : List (List Module)} (hg : Square size g) :
    Square size (writeFmt size w g) := square_setFuncs hg (fmtWrites_inside h w)

theorem writeFmt_writeFmt {size : Nat} (h : 21 ≤ size) (w w' : BitVec 15) {g : List (List Module)}
    (hg : Square size g) : writeFmt size w (writeFmt size w' g) = writeFmt size w g := by
  refine setFuncs_setFuncs_of_covered hg (fmtWrites_inside h w) (fmtWrites_inside h w') fun r c d' hmem => ?_
  obtain ⟨i, hi, hcell, -⟩ := mem_fmtWrites.mp hmem
  exact ⟨w.getLsbD i, mem_fmtWrites.mpr ⟨i, hi, hcell, rfl⟩⟩

theorem flipGrid_writeFmt {size : Nat} (h : 21 ≤ size) (m : Nat) (w : BitVec 15) {g : List (List Module)}
    (hg : Square size g) : flipGrid size m (writeFmt size w g) = writeFmt size w (flipGrid size m g) :=
  flipGrid_setFuncs m hg (fmtWrites_inside h w)

end Sys2Proof.Machine
end

section
/-! SUPPORT. `MK_SELECT` (R334): after each trial the grid is the one before the command but for its format word, which
the next trial overwrites; the scores are those of the trials run, and the best is the first of the lowest. -/
namespace Sys2Proof.Machine

/-! The first of the lowest scores. -/

/-- `b` is the smallest index below `n` where `f` is lowest. -/
def IsFirstMin (f : Nat → Nat) (n b : Nat) : Prop := b < n ∧ (∀ m < n, f b ≤ f m) ∧ ∀ m < b, f b < f m

theorem isFirstMin_one (f : Nat → Nat) : IsFirstMin f 1 0 :=
  ⟨Nat.one_pos, fun m hm => Nat.le_of_eq (by rw [Nat.lt_one_iff.mp hm]), fun m hm => absurd hm (Nat.not_lt_zero m)⟩

/-- A new value below the lowest is the only lowest. -/
theorem IsFirstMin.of_lt {f : Nat → Nat} {n b : Nat} (h : IsFirstMin f n b) (hlt : f n < f b) :
    IsFirstMin f (n + 1) n := by
  obtain ⟨-, hmin, -⟩ := h
  have hbelow : ∀ m < n, f n < f m := fun m hm => Nat.lt_of_lt_of_le hlt (hmin m hm)
  refine ⟨n.lt_succ_self, fun m hm => ?_, hbelow⟩
  rcases Nat.lt_succ_iff_lt_or_eq.mp hm with hm | rfl
  · exact Nat.le_of_lt (hbelow m hm)
  · exact Nat.le_refl _

/-- Any other new value leaves the first lowest where it is. -/
theorem IsFirstMin.of_le {f : Nat → Nat} {n b : Nat} (h : IsFirstMin f n b) (hle : f b ≤ f n) :
    IsFirstMin f (n + 1) b := by
  obtain ⟨hb, hmin, hfirst⟩ := h
  refine ⟨Nat.lt_succ_of_lt hb, fun m hm => ?_, hfirst⟩
  rcases Nat.lt_succ_iff_lt_or_eq.mp hm with hm | rfl
  · exact hmin m hm
  · exact hle

/-- What the loop has as its best after the trials of `0 .. n - 1` with the scores `f` (R334). -/
def BestOf (f : Nat → Nat) (n : Nat) : Option (Nat × Nat) → Prop
  | none => n = 0
  | some (b, score) => score = f b ∧ IsFirstMin f n b

theorem bestOf_betterTrial {f : Nat → Nat} {n : Nat} {best : Option (Nat × Nat)} (h : BestOf f n best) :
    BestOf f (n + 1) (betterTrial best n (f n)) := by
  match best, h with
  | none, hn =>
    obtain rfl : n = 0 := hn
    exact ⟨rfl, isFirstMin_one f⟩
  | some (b, score), ⟨hscore, hmin⟩ =>
    subst hscore
    rw [betterTrial]
    split
    · next hlt => exact ⟨rfl, hmin.of_lt hlt⟩
    · next hge => exact ⟨rfl, hmin.of_le (Nat.not_lt.mp hge)⟩

/-! The loop. -/

/-- The variables of the loop after the trials of masks `0 .. n - 1`. -/
structure AfterTrials (s : State) (n : Nat) (t : Trials) : Prop where
  square : Square s.size t.grid
  format : ∀ w, writeFmt s.size w t.grid = writeFmt s.size w s.grid
  scores : t.scores = (List.range n).map (trialScore s)
  best : BestOf (trialScore s) n t.best

/-- The format word a trial left in the grid does not show in the grid of another. -/
theorem AfterTrials.trialGrid_eq {s : State} {n : Nat} {t : Trials} (h : AfterTrials s n t) (hsize : 21 ≤ s.size)
    (hsq : Square s.size s.grid) (m : Nat) :
    writeFmt s.size (fmtWord s.ecl m) (flipGrid s.size m t.grid) = trialGrid s m :=
  calc writeFmt s.size (fmtWord s.ecl m) (flipGrid s.size m t.grid)
    _ = flipGrid s.size m (writeFmt s.size (fmtWord s.ecl m) t.grid) := (flipGrid_writeFmt hsize _ _ h.square).symm
    _ = flipGrid s.size m (writeFmt s.size (fmtWord s.ecl m) s.grid) := by rw [h.format]
    _ = trialGrid s m := flipGrid_writeFmt hsize _ _ hsq

/-- Once the mask is taken out, the format word is all a trial has changed. -/
theorem flipGrid_trialGrid {s : State} (hsize : 21 ≤ s.size) (hsq : Square s.size s.grid) (m : Nat) :
    flipGrid s.size m (trialGrid s m) = writeFmt s.size (fmtWord s.ecl m) s.grid := by
  rw [trialGrid, flipGrid_writeFmt hsize _ _ (square_flipGrid hsq), flipGrid_flipGrid_same m hsq]

theorem afterTrials_zero {s : State} (hsq : Square s.size s.grid) :
    AfterTrials s 0 { grid := s.grid, scores := [], best := none } :=
  ⟨hsq, fun _ => rfl, rfl, rfl⟩

/-- One more trial, given by what it puts in the loop's variables. -/
theorem AfterTrials.runTrial_eq {s : State} {n : Nat} {t : Trials} (h : AfterTrials s n t) (hsize : 21 ≤ s.size)
    (hsq : Square s.size s.grid) : runTrial s.params s.ecl s.size t n =
      { grid := writeFmt s.size (fmtWord s.ecl n) s.grid, scores := t.scores ++ [trialScore s n],
        best := betterTrial t.best n (trialScore s n) } := by
  simp only [runTrial, h.trialGrid_eq hsize hsq, flipGrid_trialGrid hsize hsq, trialScore]

theorem AfterTrials.succ {s : State} {n : Nat} {t : Trials} (h : AfterTrials s n t) (hsize : 21 ≤ s.size)
    (hsq : Square s.size s.grid) : AfterTrials s (n + 1) (runTrial s.params s.ecl s.size t n) := by
  rw [h.runTrial_eq hsize hsq]
  constructor <;> dsimp only
  case square => exact square_writeFmt hsize _ hsq
  case format => exact fun w => writeFmt_writeFmt hsize w _ hsq
  case scores => rw [h.scores, List.range_succ, List.map_append, List.map_singleton]
  case best => exact bestOf_betterTrial h.best

theorem afterTrials_foldl {s : State} (hsize : 21 ≤ s.size) (hsq : Square s.size s.grid) (n : Nat) :
    AfterTrials s n ((List.range n).foldl (runTrial s.params s.ecl s.size)
      { grid := s.grid, scores := [], best := none }) := by
  induction n with
  | zero => exact afterTrials_zero hsq
  | succ n ih =>
    rw [List.range_succ, List.foldl_append]
    exact ih.succ hsize hsq

/-! The command. -/

/-- The state `MK_SELECT` leaves when mask `b` is the one selected (R334). -/
def withMask (b : Nat) (s : State) : State :=
  { s with
    grid := trialGrid s b
    trial := Vector.ofFn fun m : Fin 8 => zext32 (trialScore s m)
    applied := some (BitVec.ofNat 3 b)
    bestmask := BitVec.ofNat 3 b
    bestscore := zext32 (trialScore s b)
    phase := .selected }

theorem withMask_phase (b : Nat) (s : State) : (withMask b s).phase = .selected := rfl
theorem withMask_params (b : Nat) (s : State) : (withMask b s).params = s.params := rfl
theorem withMask_size (b : Nat) (s : State) : (withMask b s).size = s.size := rfl
theorem withMask_grid (b : Nat) (s : State) : (withMask b s).grid = trialGrid s b := by rw [withMask]
theorem withMask_bestscore (b : Nat) (s : State) : (withMask b s).bestscore = zext32 (trialScore s b) := by rw [withMask]

theorem mkSelectBody_of_applied {s : State} (h : s.applied ≠ none) : mkSelectBody s = .error .sequenceError := by
  rw [mkSelectBody, require_false h, error_bind]

theorem mkSelectBody_of_none {s : State} (h : s.applied = none) (hsize : 21 ≤ s.size) (hsq : Square s.size s.grid) :
    ∃ b, IsFirstMin (trialScore s) 8 b ∧ mkSelectBody s = .ok (withMask b s) := by
  have hloop : AfterTrials s 8 (runTrials s.params s.ecl s.size s.grid) := afterTrials_foldl hsize hsq 8
  rw [mkSelectBody, require_true h, ok_bind]
  cases hbest : (runTrials s.params s.ecl s.size s.grid).best with
  | none => exact absurd (hbest ▸ hloop.best : BestOf (trialScore s) 8 none) (by simp [BestOf])
  | some best =>
    obtain ⟨b, score⟩ := best
    obtain ⟨rfl, hmin⟩ : BestOf (trialScore s) 8 (some (b, score)) := hbest ▸ hloop.best
    refine ⟨b, hmin, ?_⟩
    have hscores (m : Fin 8) : ((List.range 8).map (trialScore s)).getD m 0 = trialScore s m := by
      simp [List.getD, m.isLt]
    simp only [hbest, Option.getD_some, hloop.trialGrid_eq hsize hsq, hloop.scores, hscores, withMask]

theorem toNat_zext32_trialScore {s : State} (hver : s.ver.toNat ≤ 40) (m : Nat) :
    (zext32 (trialScore s m)).toNat = trialScore s m := toNat_zext32_penalty _ (State.size_lt hver) _

theorem mkPenBody_zero (s : State) :
    mkPenBody 0 s = .ok (setRes (zext32 (penalty s.params s.size s.grid)) s) := by
  rw [mkPenBody, require_true (by decide), ok_bind, penaltyPart, if_pos (by decide)]

/-- `MK_PEN 0` scores the grid as it stands, which is the selected trial's. -/
theorem exec_mkPen_withMask (b : Nat) (s : State) :
    exec (.mkPen 0) (withMask b s) = .next { withMask b s with res := (withMask b s).bestscore } := by
  have hbody := mkPenBody_zero (withMask b s)
  rw [withMask_params, withMask_size, withMask_grid, ← trialScore, ← withMask_bestscore] at hbody
  exact exec_of_phase_ok (withMask_phase b s) rfl hbody

/-- Settles O58: the body's result is `withMask` of the first mask with the lowest score, by the invariant of its
loop. -/
theorem mkSelect : Obligations.MkSelect := by
  refine fun s hs hv hver hsq => ⟨fun ha => raises_of_phase hs rfl (mkSelectBody_of_applied ha), fun ha => ?_⟩
  obtain ⟨b, ⟨hb, hmin, hfirst⟩, hbody⟩ := mkSelectBody_of_none ha (State.le_size hv) hsq
  have hmask : (withMask b s).bestmask.toNat = b := (BitVec.toNat_ofNat b 3).trans (Nat.mod_eq_of_lt hb)
  refine ⟨withMask b s, exec_of_phase_ok hs rfl hbody, ?frame, fun m => ?scores, ?score, ?lowest, ?first,
    exec_mkPen_withMask b s⟩
  case frame => rw [hmask]; rfl
  case scores =>
    have hread : (withMask b s).trial[m] = zext32 (trialScore s m) := Vector.getElem_ofFn m.isLt
    rw [hread, toNat_zext32_trialScore hver]
  case score => rw [hmask]; exact toNat_zext32_trialScore hver b
  case lowest => rw [hmask]; exact hmin
  case first => rw [hmask]; exact hfirst

end Sys2Proof.Machine
end

section
/-! SUPPORT. The cells of the two metadata words, one bit each (R353, R354), what `write_fmt` and `write_ver` leave at
each module (R355, R356), and `MetadataCells`. -/
namespace Sys2Proof.Machine

/-! A cell holds one bit. -/

/-- The bit of the format word a cell of either copy holds (R353), read off the cell's place. -/
def formatBit (size r c : Nat) : Nat :=
  if c = 8 then if r ≤ 5 then r else if r ≤ 8 then r - 1 else r + 15 - size
  else if c ≤ 5 then 14 - c else if c = 7 then 8 else size - 1 - c

theorem formatBit_fmtCellA {size i : Nat} (hi : i < 15) : formatBit size (fmtCellA i).1 (fmtCellA i).2 = i := by
  unfold fmtCellA formatBit
  repeat' split
  all_goals dsimp only at * <;> omega

theorem formatBit_fmtCellB {size i : Nat} (h : 21 ≤ size) (hi : i < 15) :
    formatBit size (fmtCellB size i).1 (fmtCellB size i).2 = i := by
  unfold fmtCellB formatBit
  repeat' split
  all_goals dsimp only at *; omega

theorem formatBit_of_mem {size i r c : Nat} (h : 21 ≤ size) (hi : i < 15)
    (hcell : (r, c) ∈ [fmtCellA i, fmtCellB size i]) : formatBit size r c = i := by
  rcases List.mem_cons.mp hcell with hA | hB
  · have hbit := formatBit_fmtCellA (size := size) hi
    rwa [← hA] at hbit
  · have hbit := formatBit_fmtCellB h hi
    rwa [← List.mem_singleton.mp hB] at hbit

/-- The two version blocks do not meet, and in each a bit has one cell (R354). -/
theorem versionCells_injective {size i j : Nat} {rc : Nat × Nat} (h : 45 ≤ size) (hj : j < 18)
    (hmi : rc ∈ versionCells size i) (hmj : rc ∈ versionCells size j) : i = j := by
  simp only [versionCells, List.mem_cons, List.not_mem_nil, or_false, Prod.ext_iff] at hmi hmj
  omega

/-! The printed lists of format cells, by index (R353). -/

theorem getElem?_map_range_eq_some {α : Type} {f : Nat → α} {n i : Nat} {a : α}
    (h : ((List.range n).map f)[i]? = some a) : i < n ∧ a = f i := by
  obtain ⟨hi, rfl⟩ := List.getElem?_eq_some_iff.mp h
  simpa using hi

theorem formatCopyA_eq_map : formatCopyA = (List.range 15).map fmtCellA := by decide

theorem formatCopyB_eq_map {size : Nat} (h : 21 ≤ size) : formatCopyB size = (List.range 15).map (fmtCellB size) := by
  obtain ⟨n, rfl⟩ := Nat.exists_eq_add_of_le' h
  rfl

theorem mem_fmtCells_of_getElem? {size i : Nat} {rc : Nat × Nat} (h : 21 ≤ size)
    (hrc : formatCopyA[i]? = some rc ∨ (formatCopyB size)[i]? = some rc) :
    i < 15 ∧ rc ∈ [fmtCellA i, fmtCellB size i] := by
  rw [formatCopyA_eq_map, formatCopyB_eq_map h] at hrc
  rcases hrc with hA | hB
  · obtain ⟨hi, rfl⟩ := getElem?_map_range_eq_some hA
    exact ⟨hi, List.mem_cons_self⟩
  · obtain ⟨hi, rfl⟩ := getElem?_map_range_eq_some hB
    exact ⟨hi, List.mem_cons_of_mem _ List.mem_cons_self⟩

theorem gridAt_setFuncs_of_mem {ws : List FuncWrite} {r c : Nat} {d : Bool} (g : List (List Module))
    (hmem : (r, c, d) ∈ ws) (h : ∀ d', (r, c, d') ∈ ws → d' = d) : gridAt (setFuncs ws g) r c = .function d := by
  rw [gridAt_setFuncs, lastWrite_of_mem hmem h]

/-! The format word on a grid (R355). -/

theorem gridAt_writeFmt_cell {size i r c : Nat} (h : 21 ≤ size) (w : BitVec 15) (g : List (List Module)) (hi : i < 15)
    (hcell : (r, c) ∈ [fmtCellA i, fmtCellB size i]) :
    gridAt (writeFmt size w g) r c = .function (w.getLsbD i) := by
  refine gridAt_setFuncs_of_mem g (mem_fmtWrites.mpr ⟨i, hi, hcell, rfl⟩) fun d hd => ?_
  obtain ⟨j, hj, hcell', rfl⟩ := mem_fmtWrites.mp hd
  rw [← formatBit_of_mem h hi hcell, formatBit_of_mem h hj hcell']

theorem gridAt_writeFmt_other {size r c : Nat} (h : 21 ≤ size) (w : BitVec 15) (g : List (List Module))
    (hrc : (r, c) ∉ formatCopyA ++ formatCopyB size) : gridAt (writeFmt size w g) r c = gridAt g r c := by
  refine gridAt_setFuncs_of_not_mem g ?_
  rintro ⟨r', c', d⟩ hmem ⟨rfl, rfl⟩
  obtain ⟨i, hi, hcell, -⟩ := mem_fmtWrites.mp hmem
  exact hrc ((mem_formatCopies h _).mpr ⟨i, hi, hcell⟩)

/-! The version word on a grid (R356). -/

theorem writeVer_of_lt {ver : Nat} (size : Nat) (g : List (List Module)) (h : ver < 7) : writeVer ver size g = g :=
  if_neg (Nat.not_le.mpr h)

theorem writeVer_of_ge {ver : Nat} (size : Nat) (g : List (List Module)) (h : 7 ≤ ver) :
    writeVer ver size g = setFuncs (verWrites size (verWord ver)) g := if_pos h

theorem gridAt_writeVer_cell {ver size i r c : Nat} (h7 : 7 ≤ ver) (h : 45 ≤ size) (g : List (List Module))
    (hi : i < 18) (hcell : (r, c) ∈ versionCells size i) :
    gridAt (writeVer ver size g) r c = .function ((verWord ver).getLsbD i) := by
  rw [writeVer_of_ge size g h7]
  refine gridAt_setFuncs_of_mem g (mem_verWrites.mpr ⟨i, hi, hcell, rfl⟩) fun d hd => ?_
  obtain ⟨j, hj, hcell', rfl⟩ := mem_verWrites.mp hd
  rw [versionCells_injective h hj hcell hcell']

theorem gridAt_writeVer_other {size r c : Nat} (ver : Nat) (g : List (List Module))
    (hrc : ∀ i < 18, (r, c) ∉ versionCells size i) : gridAt (writeVer ver size g) r c = gridAt g r c := by
  rcases Nat.lt_or_ge ver 7 with h7 | h7
  · rw [writeVer_of_lt size g h7]
  · rw [writeVer_of_ge size g h7]
    refine gridAt_setFuncs_of_not_mem g ?_
    rintro ⟨r', c', d⟩ hmem ⟨rfl, rfl⟩
    obtain ⟨i, hi, hcell, -⟩ := mem_verWrites.mp hmem
    exact hrc i hi hcell

/-- From version 7 on a symbol has at least 45 rows (R27). -/
theorem State.le_size_of_version {s : State} (h : 7 ≤ s.ver.toNat) : 45 ≤ s.size := by
  rw [State.size, if_neg (by omega)]
  omega

/-! The commands. -/

theorem mdFmtBody_of_bad_mask {m : Byte} (s : State) (h : 7 < m.toNat) : mdFmtBody m s = .error .operandRange := by
  rw [mdFmtBody, require_false (Nat.not_le.mpr h), error_bind]

theorem mdFmtBody_of_mask {m : Byte} (s : State) (h : m.toNat ≤ 7) :
    mdFmtBody m s = .ok (writeFuncs (fmtWrites s.size (fmtWord s.ecl m.toNat)) s) := by
  rw [mdFmtBody, require_true h, ok_bind]
  rfl

/-- Only the grid changes. -/
theorem writeFuncs_frame (ws : List FuncWrite) (s : State) :
    writeFuncs ws s = { s with grid := (writeFuncs ws s).grid } := rfl

theorem moduleAt_writeFuncs_fmtWrites (w : BitVec 15) (s : State) (r c : Nat) :
    (writeFuncs (fmtWrites s.size w) s).moduleAt r c = gridAt (writeFmt s.size w s.grid) r c := by
  rw [State.moduleAt, writeFuncs_grid, writeFmt]

/-- Settles O60: every cell of a word holds one of its bits, so what is written there last is that bit. -/
theorem metadataCells : Obligations.MetadataCells := by
  refine fun s hv _ => ⟨fun hs m => ⟨fun hm => ?badMask, fun hm => ?format⟩, fun hs => ?version⟩
  case badMask => exact raises_of_phase hs rfl (mdFmtBody_of_bad_mask s hm)
  case format =>
    have hsize := State.le_size hv
    refine ⟨_, exec_of_phase_ok hs rfl (mdFmtBody_of_mask s hm), writeFuncs_frame .., fun i rc hrc => ?_,
      fun r c hrc => ?_⟩
    · obtain ⟨hi, hcell⟩ := mem_fmtCells_of_getElem? hsize hrc
      exact (moduleAt_writeFuncs_fmtWrites ..).trans (gridAt_writeFmt_cell hsize _ _ hi hcell)
    · exact (moduleAt_writeFuncs_fmtWrites ..).trans (gridAt_writeFmt_other hsize _ _ hrc)
  case version =>
    exact ⟨_, exec_of_phase_ok hs rfl rfl, rfl, writeVer_of_lt _ _,
      fun h7 i hi rc hrc => gridAt_writeVer_cell h7 (State.le_size_of_version h7) _ hi hrc,
      fun r c hrc => gridAt_writeVer_other _ _ hrc⟩

end Sys2Proof.Machine
end

section
/-! SUPPORT. Division in GF(2) (R350): the remainder is linear and shorter than its generator, so a number with its
remainder below it is a multiple of the generator. The two code words (R351, R352) and `CodeWords`. -/
namespace Sys2Proof.Machine

/-! Division in GF(2) (R350). -/

/-- One step of the division: bit `i`, where it is set, is taken off by a shifted generator of degree `dg`. -/
def divStep (g dg v i : Nat) : Nat := if v.testBit i then v ^^^ (g <<< (i - dg)) else v

/-- The first `n` steps of the division of `v` from bit `top` down. -/
def divSteps (g dg top n v : Nat) : Nat := (List.range n).foldl (fun v k => divStep g dg v (top - k)) v

theorem polyRem_eq_divSteps (v g dg top : Nat) : polyRem v g dg top = divSteps g dg top (top + 1 - dg) v := rfl

theorem divSteps_succ (g dg top n v : Nat) :
    divSteps g dg top (n + 1) v = divStep g dg (divSteps g dg top n v) (top - n) := by
  rw [divSteps, divSteps, List.range_succ, List.foldl_append, List.foldl_cons, List.foldl_nil]

theorem divStep_xor (g dg v w i : Nat) : divStep g dg (v ^^^ w) i = divStep g dg v i ^^^ divStep g dg w i := by
  unfold divStep
  rw [Nat.testBit_xor]
  cases v.testBit i <;> cases w.testBit i
  case false.false => rfl
  case false.true => exact Nat.xor_assoc ..
  case true.false => exact Nat.xor_right_comm ..
  case true.true =>
    change v ^^^ w = v ^^^ g <<< (i - dg) ^^^ (w ^^^ g <<< (i - dg))
    rw [Nat.xor_comm w, ← Nat.xor_assoc, Nat.xor_xor_cancel_right]

theorem divSteps_xor (g dg top n v w : Nat) :
    divSteps g dg top n (v ^^^ w) = divSteps g dg top n v ^^^ divSteps g dg top n w := by
  induction n with
  | zero => rfl
  | succ n ih => rw [divSteps_succ, divSteps_succ, divSteps_succ, ih, divStep_xor]

theorem polyRem_xor (v w g dg top : Nat) : polyRem (v ^^^ w) g dg top = polyRem v g dg top ^^^ polyRem w g dg top :=
  divSteps_xor ..

theorem divSteps_of_lt {g dg top n v : Nat} (hn : n ≤ top + 1 - dg) (h : v < 2 ^ dg) : divSteps g dg top n v = v := by
  induction n with
  | zero => rfl
  | succ n ih =>
    have hbit : v.testBit (top - n) = false :=
      Nat.testBit_lt_two_pow (Nat.lt_of_lt_of_le h (Nat.pow_le_pow_right (by decide) (by omega)))
    rw [divSteps_succ, ih (by omega), divStep, hbit, if_neg Bool.false_ne_true]

theorem polyRem_of_lt {v g dg top : Nat} (h : v < 2 ^ dg) : polyRem v g dg top = v :=
  divSteps_of_lt (Nat.le_refl _) h

/-- The number `g` is a polynomial of degree `dg`. -/
def HasDegree (g dg : Nat) : Prop := g.testBit dg = true ∧ g < 2 ^ (dg + 1)

theorem lt_two_pow_of_testBit_eq_false {v i : Nat} (h : v < 2 ^ (i + 1)) (hbit : v.testBit i = false) : v < 2 ^ i := by
  refine Nat.lt_pow_two_of_testBit v fun j hj => ?_
  rcases Nat.eq_or_lt_of_le hj with rfl | hlt
  · exact hbit
  · exact Nat.testBit_lt_two_pow (Nat.lt_of_lt_of_le h (Nat.pow_le_pow_right (by decide) hlt))

/-- A step clears the bit it looks at. -/
theorem divStep_lt {g dg v i : Nat} (hg : HasDegree g dg) (hi : dg ≤ i) (hv : v < 2 ^ (i + 1)) :
    divStep g dg v i < 2 ^ i := by
  obtain ⟨htop, hlt⟩ := hg
  obtain ⟨k, rfl⟩ := Nat.exists_eq_add_of_le hi
  rw [divStep, Nat.add_sub_cancel_left]
  cases hbit : v.testBit (dg + k) with
  | false => exact lt_two_pow_of_testBit_eq_false hv hbit
  | true =>
    have hshift : g <<< k < 2 ^ (dg + k + 1) := Nat.add_right_comm dg 1 k ▸ Nat.shiftLeft_lt hlt
    refine lt_two_pow_of_testBit_eq_false (Nat.xor_lt_two_pow hv hshift) ?_
    simp [Nat.testBit_shiftLeft, hbit, htop]

theorem divSteps_lt {g dg top n v : Nat} (hg : HasDegree g dg) (hn : n ≤ top + 1 - dg) (hv : v < 2 ^ (top + 1)) :
    divSteps g dg top n v < 2 ^ (top + 1 - n) := by
  induction n with
  | zero => exact hv
  | succ n ih =>
    rw [divSteps_succ, Nat.add_sub_add_right]
    refine divStep_lt hg (by omega) ?_
    rw [← Nat.sub_add_comm (by omega)]
    exact ih (by omega)

theorem polyRem_lt {v g dg top : Nat} (hg : HasDegree g dg) (htop : dg ≤ top) (hv : v < 2 ^ (top + 1)) :
    polyRem v g dg top < 2 ^ dg := by
  have hlt := divSteps_lt hg (Nat.le_refl _) hv
  rwa [Nat.sub_sub_self (Nat.le_succ_of_le htop)] at hlt

/-! A number with its remainder below it. -/

/-- The data `d` with the `dg` bits of its remainder below it (R351, R352). -/
def codeWord (d g dg top : Nat) : Nat := d <<< dg ||| polyRem (d <<< dg) g dg top

theorem shiftLeft_or_eq_xor {d r k : Nat} (h : r < 2 ^ k) : d <<< k ||| r = d <<< k ^^^ r := by
  refine Nat.eq_of_testBit_eq fun i => ?_
  rw [Nat.testBit_or, Nat.testBit_xor, Nat.testBit_shiftLeft]
  rcases Nat.lt_or_ge i k with hi | hi
  · simp [Nat.not_le.mpr hi]
  · simp [Nat.testBit_lt_two_pow (Nat.lt_of_lt_of_le h (Nat.pow_le_pow_right (by decide) hi))]

section
variable {d g dg n : Nat} (hg : HasDegree g dg) (hd : d < 2 ^ (n + 1))
include hg hd

theorem polyRem_shiftLeft_lt : polyRem (d <<< dg) g dg (n + dg) < 2 ^ dg :=
  polyRem_lt hg (Nat.le_add_left ..) (Nat.add_right_comm n 1 dg ▸ Nat.shiftLeft_lt hd)

theorem codeWord_div : codeWord d g dg (n + dg) / 2 ^ dg = d := by
  have hrem := polyRem_shiftLeft_lt hg hd
  rw [codeWord, ← Nat.shiftRight_eq_div_pow, Nat.shiftRight_or_distrib, Nat.shiftLeft_shiftRight,
    Nat.shiftRight_eq_div_pow, Nat.div_eq_of_lt hrem, Nat.or_zero]

theorem codeWord_lt : codeWord d g dg (n + dg) < 2 ^ (n + 1 + dg) := by
  rw [Nat.pow_add, ← Nat.div_lt_iff_lt_mul (Nat.two_pow_pos dg), codeWord_div hg hd]
  exact hd

/-- By linearity the remainder of the code word is the remainder of the data twice. -/
theorem polyRem_codeWord : polyRem (codeWord d g dg (n + dg)) g dg (n + dg) = 0 := by
  have hrem := polyRem_shiftLeft_lt hg hd
  rw [codeWord, shiftLeft_or_eq_xor hrem, polyRem_xor, polyRem_of_lt hrem, Nat.xor_self]

end

/-! The two code words. -/

theorem hasDegree_fmt : HasDegree 0x537 10 := ⟨by decide, by decide⟩

theorem hasDegree_ver : HasDegree 0x1F25 12 := ⟨by decide, by decide⟩

/-- The level code and the mask, the five data bits of the format word (R351). -/
def fmtData (e : Level) (m : Nat) : Nat := levelCode e * 8 + m

theorem fmtData_lt (e : Level) {m : Nat} (hm : m ≤ 7) : fmtData e m < 2 ^ 5 := by
  have hcode : levelCode e ≤ 3 := by cases e <;> decide
  rw [fmtData]
  omega

/-- The format word without its mask is the code word of its data (R351). -/
theorem toNat_fmtWord_xor (e : Level) {m : Nat} (hm : m ≤ 7) :
    (fmtWord e m ^^^ 0x5412#15).toNat = codeWord (fmtData e m) 0x537 10 14 := by
  have hword : fmtWord e m = BitVec.ofNat 15 (codeWord (fmtData e m) 0x537 10 14) ^^^ 0x5412#15 := BitVec.ofNat_xor
  rw [hword, BitVec.xor_assoc, BitVec.xor_self, BitVec.xor_zero, BitVec.toNat_ofNat]
  exact Nat.mod_eq_of_lt (codeWord_lt hasDegree_fmt (fmtData_lt e hm))

/-- The version word is the code word of the version (R352). -/
theorem toNat_verWord {v : Nat} (hv : v < 2 ^ 6) : (verWord v).toNat = codeWord v 0x1F25 12 17 :=
  (BitVec.toNat_ofNat ..).trans (Nat.mod_eq_of_lt (codeWord_lt hasDegree_ver hv))

theorem levelCode_ofCode {e : Nat} (h : e < 4) : levelCode (Level.ofCode e) = [0b01, 0b00, 0b11, 0b10].getD e 0 := by
  revert e; decide

/-! The commands. -/

/-- Both checks raise the same error, so their order does not show (R357). -/
theorem fmtWordBody_of_bad_operands {e m : Byte} (s : State) (h : ¬(e.toNat ≤ 3 ∧ m.toNat ≤ 7)) :
    fmtWordBody e m s = .error .operandRange := by
  by_cases he : e.toNat ≤ 3
  · have hm : ¬m.toNat ≤ 7 := fun hm => h ⟨he, hm⟩
    rw [fmtWordBody, require_true he, ok_bind, require_false hm, error_bind]
  · rw [fmtWordBody, require_false he, error_bind]

theorem fmtWordBody_of_valid {e m : Byte} (s : State) (he : e.toNat ≤ 3) (hm : m.toNat ≤ 7) :
    fmtWordBody e m s = .ok (setRes (zext32 (fmtWord (Level.ofCode e.toNat) m.toNat).toNat) s) := by
  rw [fmtWordBody, require_true he, ok_bind, require_true hm, ok_bind]

theorem verWordBody_of_bad_version {v : Byte} (s : State) (h : ¬(7 ≤ v.toNat ∧ v.toNat ≤ 40)) :
    verWordBody v s = .error .operandRange := by
  rw [verWordBody, require_false h, error_bind]

theorem verWordBody_of_version {v : Byte} (s : State) (h7 : 7 ≤ v.toNat) (h40 : v.toNat ≤ 40) :
    verWordBody v s = .ok (setRes (zext32 (verWord v.toNat).toNat) s) := by
  rw [verWordBody, require_true ⟨h7, h40⟩, ok_bind]

/-- Settles O59: the word each query answers is the code word of its data. -/
theorem codeWords : Obligations.CodeWords := by
  refine fun s hs => ⟨fun e m => ⟨fun he => ?badLevel, fun hm => ?badMask, fun he hm => ?format⟩,
    fun v => ⟨fun h => ?badVersion, fun h7 h40 => ?version⟩⟩
  case badLevel =>
    exact raises_of_body_error (fun _ => rfl) hs (fmtWordBody_of_bad_operands s fun h => Nat.not_le.mpr he h.1)
  case badMask =>
    exact raises_of_body_error (fun _ => rfl) hs (fmtWordBody_of_bad_operands s fun h => Nat.not_le.mpr hm h.2)
  case format =>
    have hdata := fmtData_lt (Level.ofCode e.toNat) hm
    refine ⟨fmtWord (Level.ofCode e.toNat) m.toNat, ?answer, ?data, ?divisible⟩
    case answer => rw [← zext32_toNat]; exact exec_of_body_ok (fun _ => rfl) hs (fmtWordBody_of_valid s he hm)
    case data =>
      rw [toNat_fmtWord_xor _ hm, codeWord_div (n := 4) hasDegree_fmt hdata, fmtData,
        levelCode_ofCode (Nat.lt_succ_of_le he)]
    case divisible => rw [toNat_fmtWord_xor _ hm, polyRem_codeWord (n := 4) hasDegree_fmt hdata]
  case badVersion => exact raises_of_body_error (fun _ => rfl) hs (verWordBody_of_bad_version s h)
  case version =>
    have hv : v.toNat < 2 ^ 6 := Nat.lt_of_le_of_lt h40 (by decide)
    refine ⟨verWord v.toNat, ?answer, ?data, ?divisible⟩
    case answer => rw [← zext32_toNat]; exact exec_of_body_ok (fun _ => rfl) hs (verWordBody_of_version s h7 h40)
    case data => rw [toNat_verWord hv, codeWord_div (n := 5) hasDegree_ver hv]
    case divisible => rw [toNat_verWord hv, polyRem_codeWord (n := 5) hasDegree_ver hv]

end Sys2Proof.Machine
end

section
/-! SUPPORT. Encoding and decoding (R130 to R140): each format reads back the operands its words are made of, so
`decode` undoes `encode`; `DecodeEncode`, `EncodeDecode`, `SampleWords`. -/
namespace Sys2Proof.Machine

/-! The formats, on the words made of their operands. -/

theorem decodeZ_fieldsWord (op : Byte) (i : Instr) : decodeZ (fieldsWord op 0 0 0) i = .ok i :=
  if_pos (Laws.OpcodeByte.and_formatZ op)

theorem decodeC1_fieldsWord (op a : Byte) (k : Byte → Instr) : decodeC1 (fieldsWord op 0 0 a) k = .ok (k a) := by
  rw [decodeC1, if_pos (Laws.OpcodeByte.and_formatC1 op a), f0Field_fieldsWord]

theorem decodeC2_fieldsWord (op a b : Byte) (k : Byte → Byte → Instr) :
    decodeC2 (fieldsWord op 0 a b) k = .ok (k a b) := by
  rw [decodeC2, if_pos (Laws.OpcodeByte.and_formatC2 op a b), f1Field_fieldsWord, f0Field_fieldsWord]

theorem decodeC3_fieldsWord (op a b c : Byte) (k : Byte → Byte → Byte → Instr) :
    decodeC3 (fieldsWord op a b c) k = .ok (k a b c) := by
  rw [decodeC3, f2Field_fieldsWord, f1Field_fieldsWord, f0Field_fieldsWord]

theorem decodeH_halfWord (op : Byte) (h : BitVec 16) (k : BitVec 16 → Instr) :
    decodeH (halfWord op h) k = .ok (k h) := by
  have hclear : halfWord op h &&& 0x00FF0000#32 = 0#32 := by
    rw [halfWord_fields]; exact Laws.OpcodeByte.and_formatC2 ..
  rw [decodeH, if_pos hclear, hField_halfWord]

/-- The row of `CFG_SYM` reserves the bits that a well-formed `me` leaves 0 (R137). -/
theorem decodeCfgSym_fieldsWord {ver ecl me : Byte} (h : (Instr.cfgSym ver ecl me).wellFormed = true) :
    decodeCfgSym (fieldsWord 0x02 ver ecl me) = .ok (.cfgSym ver ecl me) := by
  obtain ⟨m, hrow, hclear⟩ := Laws.OpcodeByte.cfgSym ver ecl me h
  have hop : opField (encode (.cfgSym ver ecl me)) = 0x02 := opField_fieldsWord ..
  obtain rfl : m = 0x000000F8#32 := opcodeTable_row_unique hrow (hop ▸ by decide)
  exact (if_pos hclear).trans (decodeC3_fieldsWord ..)

/-- Settles O1: the opcode of a command's word selects the command's format, which reads the operands back. -/
theorem decodeEncode : Obligations.DecodeEncode := by
  intro i hwf
  cases i
  case cfgSym => rw [encode, decode, opField_fieldsWord]; exact decodeCfgSym_fieldsWord hwf
  case nop | sreset | bsTerm | bsAlign | bsPad | bsFinish | rsStep | rsRun | synOk | eccRun | mxInit | mxFinder |
      mxTiming | mxAlign | mxReserve | mxFunc | plStart | plNext | plBit | plRun | mkSelect | mdVer =>
    rw [encode, decode, opField_fieldsWord]; exact decodeZ_fieldsWord ..
  case gfExp | gfLog | bsNum1 | bsAn1 | bsByte | rsData | rsGet | synClr | synIn | synGet | mkApply | mkPen | mkTrial |
      verWord | mdFmt =>
    rw [encode, decode, opField_fieldsWord]; exact decodeC1_fieldsWord ..
  case gfMul | gfGen | bsNum2 | bsAn2 | bsKanji | rsCfg | blkGet | mxGet | mxPix | fmtWord =>
    rw [encode, decode, opField_fieldsWord]; exact decodeC2_fieldsWord ..
  case bsNum3 | mkBit => rw [encode, decode, opField_fieldsWord]; exact decodeC3_fieldsWord ..
  case bsHead | bsGet | bsGetb | cwGet => rw [encode, decode, opField_halfWord]; exact decodeH_halfWord ..

/-- A command that decodes is well-formed: a `CFG_SYM` with a reserved bit of `me` set is refused (R137). -/
theorem wellFormed_of_decode {w : Word} {i : Instr} (hd : decode w = .ok i) : i.wellFormed = true := by
  cases i
  case cfgSym ver ecl me =>
    refine decide_eq_true (Nat.lt_of_not_le fun hme => ?_)
    have hrefused := decode_cfgSym_of_reserved ver ecl hme
    rw [encode_of_decode hd, hd] at hrefused
    cases hrefused
  all_goals rfl

/-- Settles O2: a word is the word of its command, and the one ill-formed command is never decoded. -/
theorem encodeDecode : Obligations.EncodeDecode :=
  fun _ _ hd => ⟨wellFormed_of_decode hd, encode_of_decode hd⟩

/-- Settles O4, by evaluating the decoder on the thirteen words. -/
theorem sampleWords : Obligations.SampleWords :=
  ⟨rfl, rfl, rfl, rfl, rfl, rfl, rfl, rfl, rfl, rfl, rfl, rfl, rfl⟩

end Sys2Proof.Machine
end

section
/-! SUPPORT. The host's accesses served one by one (R103, R110, R132, R375), and the reset (R400): `StepRunsDecoded`,
`ErrorPhase`, `HostAccesses`, `ResetValues`, `NopSreset`, `CoherentReset`. -/
namespace Sys2Proof.Machine

/-! Serving the oldest access. -/

theorem step_of_pending {s : State} {a : HostAccess} {rest : List HostAccess} (h : s.pending = a :: rest) :
    step s = hostAccess a { s with pending := rest } := by
  rw [step, serveHost, h]

theorem supportedAccess_iff (off bytes : Nat) : supportedAccess off bytes = true ↔ bytes = 4 ∧ off % 4 = 0 := by
  simp [supportedAccess]

theorem hostAccess_read {off bytes : Nat} (s : State) (h : bytes = 4 ∧ off % 4 = 0) :
    hostAccess (.read off bytes) s = .next { s with replies := s.replies ++ [hostRead off s] } :=
  if_pos ((supportedAccess_iff off bytes).mpr h)

theorem hostAccess_write {off bytes : Nat} (v : Word) (s : State) (h : bytes = 4 ∧ off % 4 = 0) :
    hostAccess (.write off bytes v) s = hostWrite off v s :=
  if_pos ((supportedAccess_iff off bytes).mpr h)

theorem hostAccess_unsupported {off bytes : Nat} (v : Word) (s : State) (h : ¬(bytes = 4 ∧ off % 4 = 0)) :
    hostAccess (.read off bytes) s = .refused .unsupportedAccess ∧
    hostAccess (.write off bytes v) s = .refused .unsupportedAccess :=
  have hn : ¬supportedAccess off bytes = true := fun hs => h ((supportedAccess_iff off bytes).mp hs)
  ⟨if_neg hn, if_neg hn⟩

/-- Settles O9: a served access is its effect, an access that is not one aligned word is refused. -/
theorem hostAccesses : Obligations.HostAccesses := by
  refine fun s rest off bytes v => ⟨fun hp hb ho => ?read, fun hp hb ho => ?write, fun hp h => ?readRefused,
    fun hp h => ?writeRefused⟩
  case read => rw [step_of_pending hp, hostAccess_read _ ⟨hb, ho⟩]
  case write => rw [step_of_pending hp, hostAccess_write _ _ ⟨hb, ho⟩]
  case readRefused => rw [step_of_pending hp, (hostAccess_unsupported v _ (by omega)).1]
  case writeRefused => rw [step_of_pending hp, (hostAccess_unsupported v _ (by omega)).2]

/-! Issuing a word. -/

/-- The one word of `SRESET`, and the one word that acts in `ERROR` (R375). -/
theorem encode_sreset : encode .sreset = 0x01000000#32 := rfl

theorem issue_of_error {w : Word} {s : State} (hs : s.phase = .error) (hw : w ≠ 0x01000000#32) :
    issue w s = .next s := by
  rw [issue, if_pos hs, if_neg hw]

theorem issue_sreset_of_error {s : State} (hs : s.phase = .error) : issue 0x01000000#32 s = .next (resetState s) := by
  rw [issue, if_pos hs, if_pos rfl]

/-- In every phase a word that decodes runs its command: in `ERROR` the word of `SRESET` resets and every other word
is ignored, as `exec` does. -/
theorem issue_of_decode {w : Word} {i : Instr} (hd : decode w = .ok i) (s : State) : issue w s = exec i s := by
  by_cases hs : s.phase = .error
  · have hw := encode_of_decode hd
    by_cases hi : i = .sreset
    · subst hi
      rw [← hw, encode_sreset, issue_sreset_of_error hs, exec_sreset]
    · have hne : w ≠ 0x01000000#32 := by
        rintro rfl
        exact hi (Except.ok.inj (hd.symm.trans (decodeEncode .sreset rfl)))
      rw [issue_of_error hs hne, exec_of_error hi hs]
  · exact issue_of_decode_ok hs hd

theorem hostAccess_cmdWrite (w : Word) (s : State) : hostAccess (cmdWrite w) s = issue w s := rfl

theorem tableWord_toNat (w : Word) : tableWord 32 w.toNat = w := by
  rw [tableWord, Nat.mod_eq_of_lt w.isLt, BitVec.ofNat_toNat, BitVec.setWidth_eq]

/-- Settles O5: the access is a write to `CMD`, which issues the word, and the word runs its command. -/
theorem stepRunsDecoded : Obligations.StepRunsDecoded := by
  refine ⟨fun s w i rest hd hp => ?pending, fun s w i hd => ?fetched⟩
  case pending => rw [step_of_pending hp, hostAccess_cmdWrite, issue_of_decode hd]
  case fetched =>
    have hp : (s.withFetchWord 32 w.toNat).pending = cmdWrite w :: s.pending := by
      rw [State.withFetchWord, tableWord_toNat]
    rw [step_of_pending hp, hostAccess_cmdWrite, issue_of_decode hd]; rfl

/-- Settles O7: step 1 of `issue`, and reads do not look at the phase. -/
theorem errorPhase : Obligations.ErrorPhase := by
  refine fun s hs => ⟨fun w hw => issue_of_error hs hw, issue_sreset_of_error hs, fun off rest ho hp => ?_⟩
  rw [step_of_pending hp, hostAccess_read _ ⟨rfl, ho⟩]; rfl

/-! Reset. -/

/-- What the host reads after a reset does not depend on the state before it (R400). -/
theorem hostRead_resetState (off : Nat) (s : State) : hostRead off (resetState s) = hostRead off State.reset := rfl

/-- Every register but `STATUS` reads 0 after a reset (R400). -/
theorem hostRead_reset : ∀ k < 13, k ≠ 1 → hostRead (4 * k) State.reset = 0 := by decide

/-- The registers after a reset do not depend on the state before it (R400). -/
theorem atReset_resetState (s : State) : AtReset (resetState s) := by
  refine ⟨⟨rfl, rfl, rfl, rfl, rfl, rfl, rfl, rfl⟩, ⟨rfl, rfl, rfl, rfl, rfl, rfl, rfl, rfl, rfl, rfl, rfl⟩,
    ⟨rfl, rfl, rfl, rfl, rfl, rfl, rfl, rfl, rfl, fun m => ?trial⟩, ?status, fun off hoff halign hne => ?registers⟩
  case trial => exact Vector.getElem_replicate m.isLt
  case status => rw [hostRead_resetState]; decide
  case registers =>
    rw [hostRead_resetState]
    obtain ⟨k, rfl⟩ : ∃ k, off = 4 * k := ⟨off / 4, by omega⟩
    exact hostRead_reset k (by omega) (by omega)

theorem resetState_reset : resetState State.reset = State.reset := rfl

theorem step_of_hardReset {s : State} {rest : List HostAccess} (h : s.pending = .hardReset :: rest) :
    step s = .next (resetState { s with pending := rest }) := step_of_pending h

/-- Settles O10: both resets are `resetState`, whatever the state before. -/
theorem resetValues : Obligations.ResetValues :=
  ⟨resetState_reset ▸ atReset_resetState State.reset,
    fun _ _ hp => ⟨_, step_of_hardReset hp, atReset_resetState _, rfl⟩,
    fun s => ⟨_, exec_sreset s, atReset_resetState s, rfl⟩, fun _ _ hp => step_of_hardReset hp⟩

/-! `NOP` and `SRESET`. -/

theorem exec_nop (s : State) : exec .nop s = .next s := by
  by_cases hs : s.phase = .error
  · exact exec_of_error (by decide) hs
  · exact exec_of_body_ok (fun _ => rfl) hs rfl

/-- In a row of format Z every word but the opcode's own has a reserved bit set (R137). -/
theorem issue_of_inexact_formatZ {w : Word} {s : State} {op : Byte} (hop : opField w = op)
    (hrow : (op, 0x00FFFFFF#32) ∈ opcodeTable) (hw : w ≠ fieldsWord op 0 0 0) (hs : s.phase ≠ .error) :
    issue w s = .next (raise .illegalCommand w s) := by
  subst hop
  exact issue_of_decode_error hs ((decode_of_row hrow).of_reserved fun h => hw (fieldsWord_of_formatZ h).symm)

/-- Settles O11: `NOP` is the empty body, `SRESET` the reset, and both opcodes have format Z. -/
theorem nopSreset : Obligations.NopSreset := by
  refine fun s => ⟨exec_nop s,
    ⟨_, exec_sreset s, atReset_resetState s, rfl, rfl, rfl, rfl, rfl, rfl, rfl, rfl, rfl⟩,
    fun w hop hw hs => ?nop, fun w hop hw hs => ?sreset, fun w hw hs => issue_of_error hs hw⟩
  case nop => exact issue_of_inexact_formatZ hop (by decide) hw hs
  case sreset => exact issue_of_inexact_formatZ hop (by decide) hw hs

end Sys2Proof.Machine
end

section
/-! SUPPORT. What a body can raise (`RaisesOnly`), command by command, and `AllOrNothing` (R374). -/
namespace Sys2Proof.Machine

/-- Whatever error `x` raises is one of `es`. -/
def RaisesOnly {α : Type} (es : List ErrCode) (x : Except ErrCode α) : Prop := ∀ e, x = .error e → e ∈ es

namespace RaisesOnly

variable {α β : Type} {es : List ErrCode}

theorem ok {a : α} : RaisesOnly es (.ok a) := fun _ h => nomatch h

theorem error {e : ErrCode} (h : e ∈ es) : RaisesOnly es (.error e : Except ErrCode α) :=
  fun _ he => Except.error.inj he ▸ h

theorem require {c : Prop} [Decidable c] {e : ErrCode} (h : e ∈ es) : RaisesOnly es (require c e) :=
  fun _ he => (require_eq_error.mp he).2 ▸ h

/-- A statement before the rest: the rest runs only where the statement succeeded. -/
theorem bind {x : Except ErrCode α} {f : α → Except ErrCode β} (hx : RaisesOnly es x)
    (hf : ∀ a, x = .ok a → RaisesOnly es (f a)) : RaisesOnly es (x >>= f) := fun e he =>
  match bind_eq_error.mp he with
  | .inl h => hx e h
  | .inr ⟨a, ha, h⟩ => hf a ha e h

/-- A loop raises what its rounds raise. -/
theorem foldlM {f : α → β → Except ErrCode α} (hf : ∀ a b, RaisesOnly es (f a b)) (l : List β) (a : α) :
    RaisesOnly es (l.foldlM f a) := by
  induction l generalizing a with
  | nil => exact ok
  | cons b l ih => rw [List.foldlM_cons]; exact bind (hf a b) fun a' _ => ih a'

end RaisesOnly

/-- The kinds `CFG_SYM` raises (R162). -/
def configErrors : List ErrCode := [.unsupportedVersion, .unsupportedECLevel]

/-- The kinds the header and the payload commands raise (R200 to R207). -/
def packErrors : List ErrCode := [.sequenceError, .invalidMode, .invalidShiftJIS, .capacityExceeded]

/-- The kinds the padding raises (R210). -/
def padErrors : List ErrCode := [.capacityExceeded, .invariantViolation]

/-- The kinds every other command raises; none is user-facing (R377, R378). -/
def internalErrors : List ErrCode := [.invariantViolation, .sequenceError, .operandRange]

/-- The kinds a command's body may raise (R371, R372). -/
def errorsOf : Instr → List ErrCode
  | .cfgSym _ _ _ => configErrors
  | .bsHead _ | .bsNum3 _ _ _ | .bsNum2 _ _ | .bsNum1 _ | .bsAn2 _ _ | .bsAn1 _ | .bsByte _ | .bsKanji _ _ => packErrors
  | .bsPad | .bsFinish => padErrors
  | _ => internalErrors

/-! The payload commands seen alike. -/

/-- The payload commands for short final groups (R202, R203, R205). -/
def isShortGroup : Instr → Bool
  | .bsNum2 _ _ | .bsNum1 _ | .bsAn1 _ => true
  | _ => false

/-- The payload commands (R195). -/
def isPayload : Instr → Bool
  | .bsNum3 _ _ _ | .bsNum2 _ _ | .bsNum1 _ | .bsAn2 _ _ | .bsAn1 _ | .bsByte _ | .bsKanji _ _ => true
  | _ => false

/-- Every Kanji pair has a value or is refused with `InvalidShiftJIS` (R207). -/
theorem exists_kanjiValue_eq (b1 b0 : Byte) : ∃ value, kanjiValue b1 b0 = orRaise .invalidShiftJIS value := by
  cases h : kanjiValue b1 b0 with
  | ok v => exact ⟨some v, rfl⟩
  | error e =>
    refine ⟨none, ?_⟩
    unfold kanjiValue at h
    extract_lets at h
    split at h
    · cases h
    · split at h <;> cases h
      rfl

/-- The body of a payload command is the common one, with the values of its characters. -/
theorem exists_packPayload {i : Instr} (h : isPayload i = true) :
    ∃ m charErr value n chars, charErr ∈ packErrors ∧
      bodyOf i = packPayload m charErr value n chars (isShortGroup i) := by
  cases i
  case bsNum3 => exact ⟨_, _, _, _, _, by decide, funext fun s => bsNum3Body_eq _ _ _ s⟩
  case bsNum2 => exact ⟨_, _, _, _, _, by decide, funext fun s => bsNum2Body_eq _ _ s⟩
  case bsNum1 => exact ⟨_, _, _, _, _, by decide, funext fun s => bsNum1Body_eq _ s⟩
  case bsAn2 => exact ⟨_, _, _, _, _, by decide, funext fun s => bsAn2Body_eq _ _ s⟩
  case bsAn1 => exact ⟨_, _, _, _, _, by decide, funext fun s => bsAn1Body_eq _ s⟩
  case bsByte => exact ⟨_, _, _, _, _, by decide, funext fun s => bsByteBody_eq _ s⟩
  case bsKanji b1 b0 =>
    obtain ⟨value, hv⟩ := exists_kanjiValue_eq b1 b0
    exact ⟨_, _, value, _, _, by decide, funext fun s => bsKanjiBody_eq s hv⟩
  all_goals cases h

/-! The shared operations. -/

section
variable {es : List ErrCode}

theorem appendField_raisesOnly (h : .capacityExceeded ∈ es) (v n : Nat) (s : State) :
    RaisesOnly es (appendField v n s) := .bind (.require h) fun _ _ => .ok

theorem eciHeader_raisesOnly (h : .capacityExceeded ∈ es) (s : State) : RaisesOnly es (eciHeader s) := by
  unfold eciHeader
  split
  · exact .bind (appendField_raisesOnly h _ _ _) fun _ _ => appendField_raisesOnly h _ _ _
  · exact .ok

theorem pay_raisesOnly (h : .sequenceError ∈ es) (m : Mode) (s : State) : RaisesOnly es (pay m s) :=
  .bind (.require h) fun _ _ => .require h

theorem orRaise_raisesOnly {e : ErrCode} (h : e ∈ es) (o : Option Nat) : RaisesOnly es (orRaise e o) := by
  cases o
  · exact .error h
  · exact .ok

theorem packPayload_raisesOnly {charErr : ErrCode} (hs : .sequenceError ∈ es) (hc : charErr ∈ es)
    (hcap : .capacityExceeded ∈ es) (m : Mode) (value : Option Nat) (n chars : Nat) (short : Bool) (s : State) :
    RaisesOnly es (packPayload m charErr value n chars short s) :=
  .bind (pay_raisesOnly hs m s) fun _ _ => .bind (orRaise_raisesOnly hc value) fun _ _ =>
    .bind (appendField_raisesOnly hcap _ _ _) fun _ _ => .ok

theorem bodyOf_raisesOnly_of_payload {i : Instr} (h : isPayload i = true) (s : State) :
    RaisesOnly packErrors (bodyOf i s) := by
  obtain ⟨m, charErr, value, n, chars, hc, hb⟩ := exists_packPayload h
  exact hb ▸ packPayload_raisesOnly (by decide) hc (by decide) m value n chars _ s

theorem padLoop_raisesOnly (h : .capacityExceeded ∈ es) (fuel i : Nat) (s : State) :
    RaisesOnly es (padLoop fuel i s) := by
  induction fuel generalizing i s with
  | zero => exact .ok
  | succ fuel ih =>
    unfold padLoop
    split
    · exact .bind (appendField_raisesOnly h _ _ _) fun _ _ => ih _ _
    · exact .ok

theorem bsPadBody_raisesOnly (hc : .capacityExceeded ∈ es) (hi : .invariantViolation ∈ es) (s : State) :
    RaisesOnly es (bsPadBody s) := .bind (padLoop_raisesOnly hc _ _ _) fun _ _ => .bind (.require hi) fun _ _ => .ok

/-- The terminator is appended only where it fits, so `BS_TERM` raises for the count alone (R208). -/
theorem bsTermBody_raisesOnly (h : .invariantViolation ∈ es) (s : State) : RaisesOnly es (bsTermBody s) := by
  by_cases hc : s.chars = s.decl
  · rw [bsTermBody_of_count_eq hc]; exact .ok
  · rw [bsTermBody_of_count_ne hc]; exact .error h

theorem rsCfgBody_raisesOnly (h : .operandRange ∈ es) (k r : Nat) (s : State) : RaisesOnly es (rsCfgBody k r s) :=
  .bind (.require h) fun _ _ => .bind (.require h) fun _ _ => .bind (.require h) fun _ _ => .ok

theorem rsDataBody_raisesOnly (h : .sequenceError ∈ es) (d : Byte) (s : State) : RaisesOnly es (rsDataBody d s) :=
  .bind (.require h) fun _ _ => .bind (.require h) fun _ _ => .ok

theorem rsRunBody_raisesOnly (h : .sequenceError ∈ es) (s : State) : RaisesOnly es (rsRunBody s) :=
  .bind (.require h) fun _ _ => .bind (.require h) fun _ _ => .ok

theorem codeBlock_raisesOnly (ho : .operandRange ∈ es) (hs : .sequenceError ∈ es) (b : Nat) (s : State) :
    RaisesOnly es (codeBlock b s) :=
  .bind (rsCfgBody_raisesOnly ho _ _ _) fun _ _ =>
    .bind (.foldlM (fun _ _ => rsDataBody_raisesOnly hs _ _) _ _) fun _ _ =>
      .bind (rsRunBody_raisesOnly hs _) fun _ _ => .ok

theorem plStartBody_raisesOnly (h : .sequenceError ∈ es) (s : State) : RaisesOnly es (plStartBody s) :=
  .bind (.require h) fun _ _ => .ok

theorem plBitBody_raisesOnly (h : .invariantViolation ∈ es) (s : State) : RaisesOnly es (plBitBody s) := by
  rcases plBitBody_cases s with ⟨p, u, -, -, hb⟩ | hb
  · rw [hb]; exact .ok
  · rw [hb]; exact .error h

theorem plRunLoop_raisesOnly (h : .invariantViolation ∈ es) (fuel : Nat) (s : State) :
    RaisesOnly es (plRunLoop fuel s) := by
  induction fuel generalizing s with
  | zero =>
    unfold plRunLoop
    split
    · exact .error h
    · exact .ok
  | succ fuel ih =>
    unfold plRunLoop
    split
    · exact .bind (plBitBody_raisesOnly h s) fun _ _ => ih _
    · exact .ok

theorem plRunBody_raisesOnly (hs : .sequenceError ∈ es) (hi : .invariantViolation ∈ es) (s : State) :
    RaisesOnly es (plRunBody s) := by
  by_cases hm : s.phase = .matrix
  · rw [plRunBody_of_matrix hm]
    exact .bind (plStartBody_raisesOnly hs s) fun _ _ => plRunLoop_raisesOnly hi _ _
  · rw [plRunBody, if_neg hm]; exact plRunLoop_raisesOnly hi _ _

theorem mkApplyBody_raisesOnly (ho : .operandRange ∈ es) (hs : .sequenceError ∈ es) (m : Byte) (s : State) :
    RaisesOnly es (mkApplyBody m s) := by
  refine .bind (.require ho) fun _ _ => ?_
  split
  · exact .ok
  · split
    · exact .ok
    · exact .error hs

theorem mkTrialBody_raisesOnly (h : .operandRange ∈ es) (m : Byte) (s : State) : RaisesOnly es (mkTrialBody m s) := by
  unfold mkTrialBody
  split
  · exact .ok
  · exact .error h

end

/-- A command's body raises the kinds of its unit. The cases stand together by the shape of the body. -/
theorem bodyOf_raisesOnly (i : Instr) (s : State) : RaisesOnly (errorsOf i) (bodyOf i s) := by
  cases i
  case nop | sreset | gfMul | gfExp | bsAlign | mxInit | mxFinder | mxTiming | mxAlign | mxReserve | mxFunc | mdVer =>
    exact .ok
  case gfLog | bsGet | bsGetb | synClr | synIn | synOk | cwGet | mxGet | mxPix | plStart | plNext | mkPen | mkSelect |
      mkBit | verWord | mdFmt =>
    change RaisesOnly internalErrors _
    exact .bind (.require (by decide)) fun _ _ => .ok
  case cfgSym =>
    change RaisesOnly configErrors _
    exact .bind (.require (by decide)) fun _ _ => .bind (.require (by decide)) fun _ _ => .ok
  case gfGen | rsData | rsStep | rsRun | rsGet | synGet | blkGet | fmtWord =>
    change RaisesOnly internalErrors _
    exact .bind (.require (by decide)) fun _ _ => .bind (.require (by decide)) fun _ _ => .ok
  case bsHead =>
    change RaisesOnly packErrors _
    exact .bind (.require (by decide)) fun _ _ => .bind (.require (by decide)) fun _ _ =>
      .bind (eciHeader_raisesOnly (by decide) s) fun _ _ => .bind (appendField_raisesOnly (by decide) _ _ _) fun _ _ =>
        .bind (appendField_raisesOnly (by decide) _ _ _) fun _ _ => .ok
  case bsNum3 | bsNum2 | bsNum1 | bsAn2 | bsAn1 | bsByte | bsKanji =>
    exact bodyOf_raisesOnly_of_payload rfl s
  case bsTerm => exact bsTermBody_raisesOnly (es := internalErrors) (by decide) s
  case bsPad => exact bsPadBody_raisesOnly (es := padErrors) (by decide) (by decide) s
  case bsFinish =>
    change RaisesOnly padErrors _
    exact .bind (bsTermBody_raisesOnly (by decide) s) fun _ _ => .bind .ok fun _ _ =>
      bsPadBody_raisesOnly (by decide) (by decide) _
  case rsCfg => exact rsCfgBody_raisesOnly (es := internalErrors) (by decide) _ _ s
  case eccRun =>
    change RaisesOnly internalErrors _
    exact .bind (.require (by decide)) fun _ _ =>
      .bind (.foldlM (fun t b => codeBlock_raisesOnly (by decide) (by decide) b t) _ _) fun _ _ =>
        .bind (.require (by decide)) fun _ _ => .ok
  case plBit => exact plBitBody_raisesOnly (es := internalErrors) (by decide) s
  case plRun => exact plRunBody_raisesOnly (es := internalErrors) (by decide) (by decide) s
  case mkApply m => exact mkApplyBody_raisesOnly (es := internalErrors) (by decide) (by decide) m s
  case mkTrial m => exact mkTrialBody_raisesOnly (es := internalErrors) (by decide) m s

theorem none_notMem_errorsOf (i : Instr) : ErrCode.none ∉ errorsOf i := by
  cases i
  case cfgSym => exact (by decide : ErrCode.none ∉ configErrors)
  case bsHead | bsNum3 | bsNum2 | bsNum1 | bsAn2 | bsAn1 | bsByte | bsKanji =>
    exact (by decide : ErrCode.none ∉ packErrors)
  case bsPad | bsFinish => exact (by decide : ErrCode.none ∉ padErrors)
  all_goals exact (by decide : ErrCode.none ∉ internalErrors)

/-- No command's arrow leads to `ERROR` (R47). -/
theorem arrow_ne_error (i : Instr) : arrow i ≠ some .error := by
  cases i <;> exact nofun

/-- A body that raises nothing does not end in `ERROR` (R47). -/
theorem bodyOf_phase_ne_error {i : Instr} {s t : State} (hs : s.phase ≠ .error) (hl : legalIn i s.phase = true)
    (hb : bodyOf i s = .ok t) : t.phase ≠ .error := by
  by_cases hi : i = .plBit
  · subst hi
    rw [plBitBody_phase (by simpa [legalIn] using hl) t hb]
    split <;> decide
  · rw [bodyOf_phase hi hl t hb]
    cases ha : arrow i with
    | none => exact hs
    | some p =>
      rintro rfl
      exact arrow_ne_error i ha

/-- A command that leads to `ERROR` raised: out of its phases, or in its body. -/
theorem exec_raises {i : Instr} {s t : State} (h : exec i s = .next t) (hs : s.phase ≠ .error)
    (ht : t.phase = .error) :
    ∃ e, t = raise e (encode i) s ∧ (e = .sequenceError ∨ legalIn i s.phase = true ∧ bodyOf i s = .error e) := by
  rcases exec_cases h with ⟨-, rfl⟩ | ⟨he, -⟩ | ⟨-, -, rfl⟩ | ⟨-, -, hl, ⟨e, hb, rfl⟩ | hb⟩
  · cases ht
  · exact absurd he hs
  · exact ⟨_, rfl, .inl rfl⟩
  · exact ⟨e, rfl, .inr ⟨hl, hb⟩⟩
  · exact absurd ht (bodyOf_phase_ne_error hs hl hb)

/-- Settles O14: the frame of a command raises from the state before it, and no body raises the kind `none`. -/
theorem allOrNothing : Obligations.AllOrNothing := by
  intro i s t h hs ht
  obtain ⟨e, rfl, he⟩ := exec_raises h hs ht
  refine ⟨e, ?_, rfl⟩
  rcases he with rfl | ⟨-, hb⟩
  · decide
  · rintro rfl
    exact none_notMem_errorsOf i (bodyOf_raisesOnly i s _ hb)

end Sys2Proof.Machine
end

section
/-! SUPPORT. User-facing errors (R377): `BS_PAD` and `BS_FINISH` do not exceed the capacity of a stream of whole bytes,
so only the commands of the phases 0 to 2 raise one; `UserErrors`. -/
namespace Sys2Proof.Machine

/-- Whole bytes below the capacity, which is whole bytes, leave room for one more: the padding loop raises nothing. -/
theorem padLoop_raises_nothing (fuel i : Nat) {s : State} (h : s.bitlen.toNat % 8 = 0) :
    RaisesOnly [] (padLoop fuel i s) := by
  induction fuel generalizing i s with
  | zero => exact .ok
  | succ fuel ih =>
    have hbytes : s.capbits = 8 * s.vspec.dataBytes := rfl
    unfold padLoop
    split
    · next hlt =>
      rw [appendField_eq, appendBits_of_fits (by rw [length_bitsMSB]; omega), ok_bind]
      refine ih _ ?_
      rw [pushBits_bitlen, length_bitsMSB, BitVec.toNat_ofNat]
      omega
    · exact .ok

theorem bsPadBody_raisesOnly_of_aligned {s : State} (h : s.bitlen.toNat % 8 = 0) :
    RaisesOnly internalErrors (bsPadBody s) :=
  .bind (fun e he => absurd (padLoop_raises_nothing _ _ h e he) List.not_mem_nil) fun _ _ =>
    .bind (.require (by decide)) fun _ _ => .ok

/-- `BS_FINISH` pads an aligned stream. -/
theorem bsFinishBody_raisesOnly (s : State) : RaisesOnly internalErrors (bsFinishBody s) := by
  refine .bind (bsTermBody_raisesOnly (by decide) s) fun u _ => .bind .ok fun v hv => ?_
  cases hv
  refine bsPadBody_raisesOnly_of_aligned ?_
  have hb := add_alignGap_mod u.bitlen.toNat
  show (BitVec.ofNat 15 (u.bitlen.toNat + (List.replicate (alignGap u.bitlen.toNat) false).length)).toNat % 8 = 0
  rw [List.length_replicate, BitVec.toNat_ofNat]
  omega

/-- The commands that raise user-facing errors (R377). -/
def userErrorCommands : List String :=
  ["CFG_SYM", "BS_HEAD", "BS_NUM3", "BS_NUM2", "BS_NUM1", "BS_AN2", "BS_AN1", "BS_BYTE", "BS_KANJI"]

/-- Outside these commands and the padding every kind is internal. -/
theorem errorsOf_cases (i : Instr) :
    mnemonic i ∈ userErrorCommands ∨ i = .bsPad ∨ i = .bsFinish ∨ errorsOf i = internalErrors := by
  cases i
  case cfgSym | bsHead | bsNum3 | bsNum2 | bsNum1 | bsAn2 | bsAn1 | bsByte | bsKanji =>
    exact .inl (by simp [mnemonic, userErrorCommands])
  case bsPad => exact .inr (.inl rfl)
  case bsFinish => exact .inr (.inr (.inl rfl))
  all_goals exact .inr (.inr (.inr rfl))

/-- These commands are legal in the phases 0 to 2 only (R47). -/
theorem phase_code_le_two {i : Instr} {p : Phase} (hi : mnemonic i ∈ userErrorCommands) (hl : legalIn i p = true) :
    p.code ≤ 2 := by
  cases i
  case cfgSym | bsHead | bsNum3 | bsNum2 | bsNum1 | bsAn2 | bsAn1 | bsByte | bsKanji =>
    rw [of_decide_eq_true hl]; decide
  all_goals exact absurd hi (by simp [mnemonic, userErrorCommands])

theorem not_userFacing_of_internal {e : ErrCode} (h : e ∈ internalErrors) : userFacing e ≠ true := by
  revert e; decide

/-- Settles O16: the padding raises no user-facing kind on whole bytes, and every other command that does is legal only
before the grid exists. -/
theorem userErrors : Obligations.UserErrors := by
  intro i s t hpacker hgrid h hs ht hu
  obtain ⟨e, rfl, rfl | ⟨hl, hb⟩⟩ := exec_raises h hs ht
  · exact absurd hu (not_userFacing_of_internal (e := .sequenceError) (by decide))
  have hpad : i ≠ .bsPad := by
    rintro rfl
    obtain ⟨-, -, -, -, haligned, -⟩ := hpacker
    exact not_userFacing_of_internal
      (bsPadBody_raisesOnly_of_aligned (haligned (by simpa [legalIn] using hl)) e hb) hu
  have hfinish : i ≠ .bsFinish := by
    rintro rfl
    exact not_userFacing_of_internal (bsFinishBody_raisesOnly s e hb) hu
  have hi : mnemonic i ∈ userErrorCommands := by
    rcases errorsOf_cases i with hi | hi | hi | hinternal
    · exact hi
    · exact absurd hi hpad
    · exact absurd hi hfinish
    · exact absurd hu (not_userFacing_of_internal (hinternal ▸ bodyOf_raisesOnly i s e hb))
  have hphase := phase_code_le_two hi hl
  exact ⟨hi, hphase, hgrid.1 (Nat.lt_of_le_of_lt hphase (by decide))⟩

end Sys2Proof.Machine
end

section
/-! SUPPORT. What a body may write: the units' frames (which registers an operation leaves alone), composed over loops. -/
namespace Sys2Proof.Machine

/-- A loop keeps what each of its rounds keeps. -/
theorem Ensures.foldlM {β : Type} {P : State → Prop} {f : State → β → Except ErrCode State} {l : List β}
    (hf : ∀ t b, b ∈ l → P t → Ensures (f t b) P) {s : State} (hs : P s) : Ensures (l.foldlM f s) P := by
  induction l generalizing s with
  | nil => exact .ok hs
  | cons b l ih =>
    rw [List.foldlM_cons]
    exact .bind fun t ht => ih (fun t' b' hb' => hf t' b' (List.mem_cons_of_mem _ hb'))
      (hf s b List.mem_cons_self hs t ht)

/-- A postcondition may be weakened. -/
theorem Ensures.mono {P Q : State → Prop} {x : Except ErrCode State} (hx : Ensures x P) (h : ∀ t, P t → Q t) :
    Ensures x Q := fun t ht => h t (hx t ht)

/-! The bit stream (R28). -/

/-- From `s` to `t` only the bit stream has changed. -/
def StreamOnly (s t : State) : Prop := ∃ bits len, t = { s with bitbuf := bits, bitlen := len }

theorem StreamOnly.refl (s : State) : StreamOnly s s := ⟨_, _, rfl⟩

theorem StreamOnly.trans {s t u : State} : StreamOnly s t → StreamOnly t u → StreamOnly s u := by
  rintro ⟨_, _, rfl⟩ ⟨_, _, rfl⟩; exact ⟨_, _, rfl⟩

theorem appendField_streamOnly (v n : Nat) (s : State) : Ensures (appendField v n s) (StreamOnly s) :=
  .bind fun _ _ => .ok ⟨_, _, rfl⟩

theorem eciHeader_streamOnly (s : State) : Ensures (eciHeader s) (StreamOnly s) := by
  unfold eciHeader
  split
  · exact .bind fun u hu => (appendField_streamOnly _ _ u).mono fun _ => (appendField_streamOnly _ _ s u hu).trans
  · exact .ok (.refl s)

theorem padLoop_streamOnly (fuel i : Nat) (s : State) : Ensures (padLoop fuel i s) (StreamOnly s) := by
  induction fuel generalizing i s with
  | zero => exact .ok (.refl s)
  | succ fuel ih =>
    unfold padLoop
    split
    · exact .bind fun u hu => (ih _ u).mono fun _ => (appendField_streamOnly _ _ s u hu).trans
    · exact .ok (.refl s)

/-! The divider and the parity memory (R30, R31, R33). -/

/-- From `s` to `t` only the divider and the parity memory have changed. -/
def DividerOnly (s t : State) : Prop :=
  ∃ k r fill head buf par,
    t = { s with rsK := k, rsR := r, rsFill := fill, rsHead := head, rsbuf := buf, par := par }

theorem DividerOnly.refl (s : State) : DividerOnly s s := ⟨_, _, _, _, _, _, rfl⟩

theorem DividerOnly.trans {s t u : State} : DividerOnly s t → DividerOnly t u → DividerOnly s u := by
  rintro ⟨_, _, _, _, _, _, rfl⟩ ⟨_, _, _, _, _, _, rfl⟩; exact ⟨_, _, _, _, _, _, rfl⟩

theorem rsCfgBody_dividerOnly (k r : Nat) (s : State) : Ensures (rsCfgBody k r s) (DividerOnly s) :=
  .bind fun _ _ => .bind fun _ _ => .bind fun _ _ => .ok ⟨_, _, _, _, _, _, rfl⟩

theorem rsDataBody_dividerOnly (d : Byte) (s : State) : Ensures (rsDataBody d s) (DividerOnly s) :=
  .bind fun _ _ => .bind fun _ _ => .ok ⟨_, _, _, _, _, _, rfl⟩

theorem rsRunBody_dividerOnly (s : State) : Ensures (rsRunBody s) (DividerOnly s) :=
  .bind fun _ _ => .bind fun _ _ => .ok (rsSteps_frame _ s ▸ ⟨_, _, _, _, _, _, rfl⟩)

theorem loadBlock_dividerOnly (off k : Nat) (s : State) : Ensures (loadBlock off k s) (DividerOnly s) :=
  .foldlM (fun t _ _ ht => (rsDataBody_dividerOnly _ t).mono fun _ => ht.trans) (.refl s)

theorem codeBlock_dividerOnly (b : Nat) (s : State) : Ensures (codeBlock b s) (DividerOnly s) :=
  .bind fun s1 h1 => .bind fun s2 h2 => .bind fun s3 h3 => .ok <|
    (rsCfgBody_dividerOnly _ _ s s1 h1).trans <| (loadBlock_dividerOnly _ _ s1 s2 h2).trans <|
      (rsRunBody_dividerOnly s2 s3 h3).trans ⟨_, _, _, _, _, _, rfl⟩

theorem codeBlocks_dividerOnly (l : List Nat) (s : State) :
    Ensures (l.foldlM (fun t b => codeBlock b t) s) (DividerOnly s) :=
  .foldlM (fun t b _ ht => (codeBlock_dividerOnly b t).mono fun _ => ht.trans) (.refl s)

/-! The placer (R35, R37, R38). -/

/-- From `s` to `t` only the placer's position has changed. -/
def PositionOnly (s t : State) : Prop :=
  ∃ row pair dir side done,
    t = { s with plRow := row, plColpair := pair, plDir := dir, plSide := side, plDone := done }

theorem PositionOnly.refl (s : State) : PositionOnly s s := ⟨_, _, _, _, _, rfl⟩

theorem PositionOnly.trans {s t u : State} : PositionOnly s t → PositionOnly t u → PositionOnly s u := by
  rintro ⟨_, _, _, _, _, rfl⟩ ⟨_, _, _, _, _, rfl⟩; exact ⟨_, _, _, _, _, rfl⟩

theorem plNext_positionOnly (s : State) : PositionOnly s (plNext s) := ⟨_, _, _, _, _, plNext_frame s⟩

theorem plNexts_positionOnly (n : Nat) (s : State) : PositionOnly s (plNexts n s) := by
  induction n generalizing s with
  | zero => exact .refl s
  | succ n ih => exact (plNext_positionOnly s).trans (ih _)

theorem plSkip_positionOnly (fuel : Nat) (s : State) : PositionOnly s (plSkip fuel s) := by
  obtain ⟨n, -, h, -⟩ := plSkip_eq fuel s
  exact h ▸ plNexts_positionOnly n s

/-- From `s` to `t` only the placer, the grid and the phase have changed. -/
def PlacementOnly (s t : State) : Prop :=
  ∃ g row pair dir side done pos phase,
    t = { s with
      grid := g, plRow := row, plColpair := pair, plDir := dir, plSide := side, plDone := done, bitpos := pos,
      phase := phase }

theorem PlacementOnly.refl (s : State) : PlacementOnly s s := ⟨_, _, _, _, _, _, _, _, rfl⟩

theorem PlacementOnly.trans {s t u : State} : PlacementOnly s t → PlacementOnly t u → PlacementOnly s u := by
  rintro ⟨_, _, _, _, _, _, _, _, rfl⟩ ⟨_, _, _, _, _, _, _, _, rfl⟩; exact ⟨_, _, _, _, _, _, _, _, rfl⟩

theorem PositionOnly.placementOnly {s t : State} : PositionOnly s t → PlacementOnly s t := by
  rintro ⟨_, _, _, _, _, rfl⟩; exact ⟨_, _, _, _, _, _, _, _, rfl⟩

theorem plStartBody_placementOnly (s : State) : Ensures (plStartBody s) (PlacementOnly s) :=
  .bind fun _ _ => .ok ⟨_, _, _, _, _, _, _, _, rfl⟩

theorem plBitBody_placementOnly (s : State) : Ensures (plBitBody s) (PlacementOnly s) := by
  intro t ht
  rcases plBitBody_cases s with ⟨p, u, hu, -, hb⟩ | hb
  · cases hb.symm.trans ht
    have hskip : PlacementOnly s u := (hu ▸ plSkip_positionOnly _ s).placementOnly
    have hbit : PlacementOnly u u.withBit := ⟨_, _, _, _, _, _, _, _, rfl⟩
    have hmove : PlacementOnly u.withBit (plNext u.withBit) := (plNext_positionOnly _).placementOnly
    have hphase : PlacementOnly (plNext u.withBit) { plNext u.withBit with phase := p } := ⟨_, _, _, _, _, _, _, _, rfl⟩
    exact hskip.trans (hbit.trans (hmove.trans hphase))
  · cases hb.symm.trans ht

theorem plRunLoop_placementOnly (fuel : Nat) (s : State) : Ensures (plRunLoop fuel s) (PlacementOnly s) := by
  induction fuel generalizing s with
  | zero =>
    unfold plRunLoop
    split
    · exact .error
    · exact .ok (.refl s)
  | succ fuel ih =>
    unfold plRunLoop
    split
    · exact .bind fun u hu => (ih u).mono fun _ => (plBitBody_placementOnly s u hu).trans
    · exact .ok (.refl s)

theorem plRunBody_placementOnly (s : State) : Ensures (plRunBody s) (PlacementOnly s) := by
  by_cases hm : s.phase = .matrix
  · rw [plRunBody_of_matrix hm]
    exact .bind fun u hu => (plRunLoop_placementOnly _ u).mono fun _ => (plStartBody_placementOnly s u hu).trans
  · rw [plRunBody, if_neg hm]; exact plRunLoop_placementOnly _ s

end Sys2Proof.Machine
end

section
/-! SUPPORT. What each command may write, the "written by" column of the table of R45 (10_state.md section 13), as one
state built from two; `WrittenBy` and `ErrInvariant`. -/
namespace Sys2Proof.Machine

/-- `s` with the registers and memories that command `i`, `SRESET` aside, writes taken from `t` (R45). -/
def withWritten (i : Instr) (s t : State) : State :=
  match i with
  | .nop | .sreset => s
  | .cfgSym _ _ _ =>
    { s with ver := t.ver, ecl := t.ecl, mode := t.mode, enc := t.enc, bitlen := t.bitlen, phase := t.phase }
  | .bsHead _ =>
    { s with
      bitbuf := t.bitbuf, bitlen := t.bitlen, decl := t.decl, chars := t.chars, tail := t.tail, phase := t.phase }
  | .bsNum3 _ _ _ | .bsAn2 _ _ | .bsByte _ | .bsKanji _ _ =>
    { s with bitbuf := t.bitbuf, bitlen := t.bitlen, chars := t.chars }
  | .bsNum2 _ _ | .bsNum1 _ | .bsAn1 _ =>
    { s with bitbuf := t.bitbuf, bitlen := t.bitlen, chars := t.chars, tail := t.tail }
  | .bsTerm | .bsAlign | .bsPad | .bsFinish => { s with bitbuf := t.bitbuf, bitlen := t.bitlen, phase := t.phase }
  | .rsCfg _ _ =>
    { s with rsK := t.rsK, rsR := t.rsR, rsFill := t.rsFill, rsHead := t.rsHead, rsbuf := t.rsbuf }
  | .rsData _ => { s with rsFill := t.rsFill, rsbuf := t.rsbuf }
  | .rsStep | .rsRun => { s with rsHead := t.rsHead, rsbuf := t.rsbuf }
  | .synClr _ => { s with synR := t.synR, syn := t.syn }
  | .synIn _ => { s with syn := t.syn }
  | .eccRun =>
    { s with
      rsK := t.rsK, rsR := t.rsR, rsFill := t.rsFill, rsHead := t.rsHead, rsbuf := t.rsbuf, par := t.par, cw := t.cw,
      cwlen := t.cwlen, phase := t.phase }
  | .mxInit => { s with grid := t.grid, fnmask := t.fnmask, phase := t.phase }
  | .mxFinder | .mxTiming | .mxAlign | .mxReserve | .mxFunc => { s with grid := t.grid, fnmask := t.fnmask }
  | .plStart =>
    { s with
      plRow := t.plRow, plColpair := t.plColpair, plDir := t.plDir, plSide := t.plSide, plDone := t.plDone,
      bitpos := t.bitpos, phase := t.phase }
  | .plNext =>
    { s with
      plRow := t.plRow, plColpair := t.plColpair, plDir := t.plDir, plSide := t.plSide, plDone := t.plDone }
  | .plBit | .plRun =>
    { s with
      grid := t.grid, plRow := t.plRow, plColpair := t.plColpair, plDir := t.plDir, plSide := t.plSide,
      plDone := t.plDone, bitpos := t.bitpos, phase := t.phase }
  | .mkApply _ => { s with grid := t.grid, applied := t.applied }
  | .mkSelect =>
    { s with
      grid := t.grid, applied := t.applied, bestmask := t.bestmask, bestscore := t.bestscore, trial := t.trial,
      phase := t.phase }
  | .mdFmt _ => { s with grid := t.grid }
  | .mdVer => { s with grid := t.grid, phase := t.phase }
  | _ => { s with res := t.res }

/-- A command that writes nothing leaves the state. -/
theorem withWritten_self (i : Instr) (s : State) : withWritten i s s = s := by
  cases i <;> rfl

/-! Each body writes what its command may. -/

theorem setRes_writes (v : Word) (s : State) : setRes v s = { s with res := (setRes v s).res } := rfl

theorem rsSteps_writes (n : Nat) (s : State) :
    rsSteps n s = { s with rsHead := (rsSteps n s).rsHead, rsbuf := (rsSteps n s).rsbuf } := by
  rw [rsSteps_frame]

theorem setFn_writeFuncs_writes (b : BitVec 4) (ws : List FuncWrite) (s : State) :
    setFn b (writeFuncs ws s) = { s with
      grid := (setFn b (writeFuncs ws s)).grid, fnmask := (setFn b (writeFuncs ws s)).fnmask } := rfl

theorem packPayload_writes (m : Mode) (charErr : ErrCode) (value : Option Nat) (n chars : Nat) (short : Bool)
    (s : State) : Ensures (packPayload m charErr value n chars short s) fun t =>
      t = { s with bitbuf := t.bitbuf, bitlen := t.bitlen, chars := t.chars, tail := short || s.tail } := by
  refine .bind fun _ _ => .bind fun _ _ => .bind fun u hu => .ok ?_
  obtain ⟨_, _, rfl⟩ := appendField_streamOnly _ _ s u hu
  rfl

theorem bodyOf_writes_of_payload {i : Instr} (h : isPayload i = true) (s : State) :
    Ensures (bodyOf i s) fun t =>
      t = { s with bitbuf := t.bitbuf, bitlen := t.bitlen, chars := t.chars, tail := isShortGroup i || s.tail } := by
  obtain ⟨m, charErr, value, n, chars, -, hb⟩ := exists_packPayload h
  exact hb ▸ packPayload_writes m charErr value n chars _ s

theorem bsTermBody_writes (s : State) : Ensures (bsTermBody s) fun t =>
    t = { s with bitbuf := t.bitbuf, bitlen := t.bitlen, phase := t.phase } := by
  by_cases hc : s.chars = s.decl
  · rw [bsTermBody_of_count_eq hc]; exact .ok rfl
  · rw [bsTermBody_of_count_ne hc]; exact .error

theorem bsPadBody_writes (s : State) : Ensures (bsPadBody s) fun t =>
    t = { s with bitbuf := t.bitbuf, bitlen := t.bitlen, phase := t.phase } := by
  refine .bind fun u hu => .bind fun _ _ => .ok ?_
  obtain ⟨_, _, rfl⟩ := padLoop_streamOnly _ _ s u hu
  rfl

theorem bsFinishBody_writes (s : State) : Ensures (bsFinishBody s) fun t =>
    t = { s with bitbuf := t.bitbuf, bitlen := t.bitlen, phase := t.phase } := by
  refine .bind fun u hu => .bind fun v hv t ht => ?_
  cases hv
  rw [bsPadBody_writes _ t ht, bsTermBody_writes s u hu]
  rfl

theorem bsHeadBody_writes (count : BitVec 16) (s : State) : Ensures (bsHeadBody count s) fun t =>
    t = withWritten (.bsHead count) s t := by
  refine .bind fun _ _ => .bind fun _ _ => .bind fun u hu => .bind fun v hv => .bind fun w hw => .ok ?_
  obtain ⟨_, _, rfl⟩ := (eciHeader_streamOnly s u hu).trans
    ((appendField_streamOnly _ _ u v hv).trans (appendField_streamOnly _ _ v w hw))
  rfl

theorem eccRunBody_writes (s : State) : Ensures (eccRunBody s) fun t => t = withWritten .eccRun s t := by
  refine .bind fun _ _ => .bind fun u hu => .bind fun _ _ => .ok ?_
  obtain ⟨_, _, _, _, _, _, rfl⟩ := codeBlocks_dividerOnly _ s u hu
  rfl

theorem mkApplyBody_writes (m : Byte) (s : State) : Ensures (mkApplyBody m s) fun t =>
    t = withWritten (.mkApply m) s t := by
  refine .bind fun _ _ => ?_
  split
  · exact .ok rfl
  · split
    · exact .ok rfl
    · exact .error

theorem mkTrialBody_writes (m : Byte) (s : State) : Ensures (mkTrialBody m s) fun t =>
    t = withWritten (.mkTrial m) s t := by
  unfold mkTrialBody
  split
  · exact .ok rfl
  · exact .error

/-- A body that raises nothing writes only what the table of R45 lets its command write. -/
theorem bodyOf_writes {i : Instr} (hi : i ≠ .sreset) (s : State) :
    Ensures (bodyOf i s) fun t => t = withWritten i s t := by
  cases i
  case sreset => exact absurd rfl hi
  -- a value copied into `RES`
  case gfMul | gfExp => exact .ok (setRes_writes _ s)
  case gfLog | bsGet | bsGetb | synOk | cwGet | mxGet | mxPix | mkPen | mkBit | verWord =>
    exact .bind fun _ _ => .ok (setRes_writes _ s)
  case gfGen | rsGet | synGet | blkGet | fmtWord => exact .bind fun _ _ => .bind fun _ _ => .ok (setRes_writes _ s)
  -- one update, after checks
  case nop | bsAlign | mxInit => exact .ok rfl
  case synClr | synIn | plStart => exact .bind fun _ _ => .ok rfl
  case cfgSym | rsData | rsStep => exact .bind fun _ _ => .bind fun _ _ => .ok rfl
  case rsCfg => exact .bind fun _ _ => .bind fun _ _ => .bind fun _ _ => .ok rfl
  case rsRun => exact .bind fun _ _ => .bind fun _ _ => .ok (rsSteps_writes _ s)
  -- function modules
  case mxFinder | mxTiming | mxAlign | mxReserve => exact .ok (setFn_writeFuncs_writes _ _ s)
  case mxFunc => exact .ok (mxFuncOp_eq s ▸ setFn_writeFuncs_writes _ _ s)
  case mdFmt => exact .bind fun _ _ => .ok (by dsimp only [withWritten])
  case mdVer => exact .ok (by dsimp only [withWritten])
  case mkSelect => exact .bind fun _ _ => .ok (by dsimp only [withWritten])
  case plNext => exact .bind fun _ _ => .ok (plNext_frame s)
  case bsHead count => exact bsHeadBody_writes count s
  case bsNum3 | bsAn2 | bsByte | bsKanji => exact bodyOf_writes_of_payload rfl s
  case bsNum2 | bsNum1 | bsAn1 => exact (bodyOf_writes_of_payload rfl s).mono fun _ h => h.trans (by rw [h]; rfl)
  case bsTerm => exact bsTermBody_writes s
  case bsPad => exact bsPadBody_writes s
  case bsFinish => exact bsFinishBody_writes s
  case eccRun => exact eccRunBody_writes s
  case plBit =>
    refine (plBitBody_placementOnly s).mono ?_
    rintro _ ⟨_, _, _, _, _, _, _, _, rfl⟩; rfl
  case plRun =>
    refine (plRunBody_placementOnly s).mono ?_
    rintro _ ⟨_, _, _, _, _, _, _, _, rfl⟩; rfl
  case mkApply m => exact mkApplyBody_writes m s
  case mkTrial m => exact mkTrialBody_writes m s

/-- Everything a command other than `SRESET` can do to the state: nothing, raise, or write what it may. -/
theorem exec_writes {i : Instr} {s t : State} (h : exec i s = .next t) (hi : i ≠ .sreset) :
    (∃ e, t = raise e (encode i) s) ∨ ∃ u, t = withWritten i s u := by
  rcases exec_cases h with ⟨rfl, -⟩ | ⟨-, rfl⟩ | ⟨-, -, rfl⟩ | ⟨-, -, -, ⟨e, -, rfl⟩ | hb⟩
  · exact absurd rfl hi
  · exact .inr ⟨t, (withWritten_self i t).symm⟩
  · exact .inl ⟨_, rfl⟩
  · exact .inl ⟨e, rfl⟩
  · exact .inr ⟨t, bodyOf_writes hi s t hb⟩

/-! Read register by register: the named commands aside, a register is that of the state before. -/

theorem withWritten_errors (i : Instr) (s u : State) :
    (withWritten i s u).err = s.err ∧ (withWritten i s u).errcmd = s.errcmd := by
  cases i <;> exact ⟨rfl, rfl⟩

theorem withWritten_host (i : Instr) (s u : State) :
    (withWritten i s u).params = s.params ∧ (withWritten i s u).pending = s.pending ∧
      (withWritten i s u).replies = s.replies := by
  cases i <;> exact ⟨rfl, rfl, rfl⟩

theorem withWritten_res {i : Instr} (h : isQuery i = false) (s u : State) : (withWritten i s u).res = s.res := by
  cases i
  case gfMul | gfExp | gfLog | gfGen | bsGet | bsGetb | rsGet | synGet | synOk | blkGet | cwGet | mxGet | mxPix | mkPen |
      mkBit | mkTrial | fmtWord | verWord => cases h
  all_goals rfl

theorem withWritten_symbol {i : Instr} (h : mnemonic i ∉ ["CFG_SYM"]) (s u : State) :
    (withWritten i s u).ver = s.ver ∧ (withWritten i s u).ecl = s.ecl ∧
      (withWritten i s u).mode = s.mode ∧ (withWritten i s u).enc = s.enc := by
  cases i
  case cfgSym => exact absurd (by simp [mnemonic]) h
  all_goals exact ⟨rfl, rfl, rfl, rfl⟩

theorem withWritten_bitlen {i : Instr} (h : mnemonic i ∉ ["CFG_SYM", "BS_HEAD", "BS_NUM3", "BS_NUM2", "BS_NUM1",
      "BS_AN2", "BS_AN1", "BS_BYTE", "BS_KANJI", "BS_TERM", "BS_ALIGN", "BS_PAD", "BS_FINISH"]) (s u : State) :
    (withWritten i s u).bitlen = s.bitlen := by
  cases i
  case cfgSym | bsHead | bsNum3 | bsNum2 | bsNum1 | bsAn2 | bsAn1 | bsByte | bsKanji | bsTerm | bsAlign | bsPad |
      bsFinish => exact absurd (by simp [mnemonic]) h
  all_goals exact rfl

theorem withWritten_bitbuf {i : Instr} (h : mnemonic i ∉ ["BS_HEAD", "BS_NUM3", "BS_NUM2", "BS_NUM1", "BS_AN2",
      "BS_AN1", "BS_BYTE", "BS_KANJI", "BS_TERM", "BS_ALIGN", "BS_PAD", "BS_FINISH"]) (s u : State) :
    (withWritten i s u).bitbuf = s.bitbuf := by
  cases i
  case bsHead | bsNum3 | bsNum2 | bsNum1 | bsAn2 | bsAn1 | bsByte | bsKanji | bsTerm | bsAlign | bsPad | bsFinish => exact absurd (by simp [mnemonic]) h
  all_goals exact rfl

theorem withWritten_decl {i : Instr} (h : mnemonic i ∉ ["BS_HEAD"]) (s u : State) :
    (withWritten i s u).decl = s.decl := by
  cases i
  case bsHead => exact absurd (by simp [mnemonic]) h
  all_goals exact rfl

theorem withWritten_chars {i : Instr} (h : mnemonic i ∉ ["BS_HEAD", "BS_NUM3", "BS_NUM2", "BS_NUM1", "BS_AN2",
      "BS_AN1", "BS_BYTE", "BS_KANJI"]) (s u : State) :
    (withWritten i s u).chars = s.chars := by
  cases i
  case bsHead | bsNum3 | bsNum2 | bsNum1 | bsAn2 | bsAn1 | bsByte | bsKanji => exact absurd (by simp [mnemonic]) h
  all_goals exact rfl

theorem withWritten_tail {i : Instr} (h : mnemonic i ∉ ["BS_HEAD", "BS_NUM2", "BS_NUM1", "BS_AN1"]) (s u : State) :
    (withWritten i s u).tail = s.tail := by
  cases i
  case bsHead | bsNum2 | bsNum1 | bsAn1 => exact absurd (by simp [mnemonic]) h
  all_goals exact rfl

theorem withWritten_rsCounts {i : Instr} (h : mnemonic i ∉ ["RS_CFG", "ECC_RUN"]) (s u : State) :
    (withWritten i s u).rsK = s.rsK ∧ (withWritten i s u).rsR = s.rsR := by
  cases i
  case rsCfg | eccRun => exact absurd (by simp [mnemonic]) h
  all_goals exact ⟨rfl, rfl⟩

theorem withWritten_rsFill {i : Instr} (h : mnemonic i ∉ ["RS_CFG", "RS_DATA", "ECC_RUN"]) (s u : State) :
    (withWritten i s u).rsFill = s.rsFill := by
  cases i
  case rsCfg | rsData | eccRun => exact absurd (by simp [mnemonic]) h
  all_goals exact rfl

theorem withWritten_rsHead {i : Instr} (h : mnemonic i ∉ ["RS_CFG", "RS_STEP", "RS_RUN", "ECC_RUN"]) (s u : State) :
    (withWritten i s u).rsHead = s.rsHead := by
  cases i
  case rsCfg | rsStep | rsRun | eccRun => exact absurd (by simp [mnemonic]) h
  all_goals exact rfl

theorem withWritten_rsbuf {i : Instr} (h : mnemonic i ∉ ["RS_CFG", "RS_DATA", "RS_STEP", "RS_RUN", "ECC_RUN"])
    (s u : State) :
    (withWritten i s u).rsbuf = s.rsbuf := by
  cases i
  case rsCfg | rsData | rsStep | rsRun | eccRun => exact absurd (by simp [mnemonic]) h
  all_goals exact rfl

theorem withWritten_synR {i : Instr} (h : mnemonic i ∉ ["SYN_CLR"]) (s u : State) :
    (withWritten i s u).synR = s.synR := by
  cases i
  case synClr => exact absurd (by simp [mnemonic]) h
  all_goals exact rfl

theorem withWritten_syn {i : Instr} (h : mnemonic i ∉ ["SYN_CLR", "SYN_IN"]) (s u : State) :
    (withWritten i s u).syn = s.syn := by
  cases i
  case synClr | synIn => exact absurd (by simp [mnemonic]) h
  all_goals exact rfl

theorem withWritten_codewords {i : Instr} (h : mnemonic i ∉ ["ECC_RUN"]) (s u : State) :
    (withWritten i s u).par = s.par ∧ (withWritten i s u).cw = s.cw ∧
      (withWritten i s u).cwlen = s.cwlen := by
  cases i
  case eccRun => exact absurd (by simp [mnemonic]) h
  all_goals exact ⟨rfl, rfl, rfl⟩

theorem withWritten_grid {i : Instr} (h : mnemonic i ∉ ["MX_INIT", "MX_FINDER", "MX_TIMING", "MX_ALIGN",
      "MX_RESERVE", "MX_FUNC", "PL_BIT", "PL_RUN", "MK_APPLY", "MK_SELECT", "MD_FMT", "MD_VER"]) (s u : State) :
    (withWritten i s u).grid = s.grid := by
  cases i
  case mxInit | mxFinder | mxTiming | mxAlign | mxReserve | mxFunc | plBit | plRun | mkApply | mkSelect | mdFmt |
      mdVer => exact absurd (by simp [mnemonic]) h
  all_goals exact rfl

theorem withWritten_fnmask {i : Instr} (h : mnemonic i ∉ ["MX_INIT", "MX_FINDER", "MX_TIMING", "MX_ALIGN",
      "MX_RESERVE", "MX_FUNC"]) (s u : State) :
    (withWritten i s u).fnmask = s.fnmask := by
  cases i
  case mxInit | mxFinder | mxTiming | mxAlign | mxReserve | mxFunc => exact absurd (by simp [mnemonic]) h
  all_goals exact rfl

theorem withWritten_position {i : Instr} (h : mnemonic i ∉ ["PL_START", "PL_NEXT", "PL_BIT", "PL_RUN"])
    (s u : State) :
    (withWritten i s u).plRow = s.plRow ∧ (withWritten i s u).plColpair = s.plColpair ∧
      (withWritten i s u).plDir = s.plDir ∧ (withWritten i s u).plSide = s.plSide ∧
      (withWritten i s u).plDone = s.plDone := by
  cases i
  case plStart | plNext | plBit | plRun => exact absurd (by simp [mnemonic]) h
  all_goals exact ⟨rfl, rfl, rfl, rfl, rfl⟩

theorem withWritten_bitpos {i : Instr} (h : mnemonic i ∉ ["PL_START", "PL_BIT", "PL_RUN"]) (s u : State) :
    (withWritten i s u).bitpos = s.bitpos := by
  cases i
  case plStart | plBit | plRun => exact absurd (by simp [mnemonic]) h
  all_goals exact rfl

theorem withWritten_applied {i : Instr} (h : mnemonic i ∉ ["MK_APPLY", "MK_SELECT"]) (s u : State) :
    (withWritten i s u).applied = s.applied := by
  cases i
  case mkApply | mkSelect => exact absurd (by simp [mnemonic]) h
  all_goals exact rfl

theorem withWritten_selection {i : Instr} (h : mnemonic i ∉ ["MK_SELECT"]) (s u : State) :
    (withWritten i s u).bestmask = s.bestmask ∧ (withWritten i s u).bestscore = s.bestscore ∧
      (withWritten i s u).trial = s.trial := by
  cases i
  case mkSelect => exact absurd (by simp [mnemonic]) h
  all_goals exact ⟨rfl, rfl, rfl⟩

/-- Settles O17: a raise writes the error registers alone, and every other effect is read register by register. -/
theorem writtenBy : Obligations.WrittenBy := by
  intro i s t h hi by_ writers
  rcases exec_writes h hi with ⟨e, rfl⟩ | ⟨u, rfl⟩
  · refine ⟨fun hn => absurd rfl hn, ?_⟩
    simp
  · exact ⟨fun _ => withWritten_errors i s u, fun h => withWritten_res h s u, fun h => withWritten_symbol h s u, fun h => withWritten_bitlen h s u, fun h => withWritten_bitbuf h s u, fun h => withWritten_decl h s u, fun h => withWritten_chars h s u, fun h => withWritten_tail h s u, fun h => withWritten_rsCounts h s u, fun h => withWritten_rsFill h s u, fun h => withWritten_rsHead h s u, fun h => withWritten_rsbuf h s u, fun h => withWritten_synR h s u, fun h => withWritten_syn h s u, fun h => withWritten_codewords h s u, fun h => withWritten_grid h s u, fun h => withWritten_fnmask h s u, fun h => withWritten_position h s u, fun h => withWritten_bitpos h s u, fun h => withWritten_applied h s u, fun h => withWritten_selection h s u,
      withWritten_host i s u⟩

end Sys2Proof.Machine
end

section
/-! SUPPORT. Everything a step can do (R110, R132), what a step keeps, and `ErrInvariant` (R24). -/
namespace Sys2Proof.Machine

/-- From `s` to `t` only the host's own side has changed, which no register shows. -/
def HostOnly (s t : State) : Prop := ∃ p r, t = { s with pending := p, replies := r }

/-- Everything a command can do: nothing, reset, raise from the state before it, or what its body does. -/
inductive CommandEffect (s t : State) : Prop
  | same (h : t = s)
  | reset (h : t = resetState s)
  | raised (e : ErrCode) (w : Word) (he : e ≠ .none) (hs : s.phase ≠ .error) (h : t = raise e w s)
  | body (i : Instr) (hi : i ≠ .sreset) (hs : s.phase ≠ .error) (hl : legalIn i s.phase = true) (hb : bodyOf i s = .ok t)

theorem exec_effect {i : Instr} {s t : State} (h : exec i s = .next t) : CommandEffect s t := by
  rcases exec_cases h with ⟨-, rfl⟩ | ⟨-, rfl⟩ | ⟨hs, -, rfl⟩ | ⟨hi, hs, hl, ⟨e, hb, rfl⟩ | hb⟩
  · exact .reset rfl
  · exact .same rfl
  · exact .raised _ _ (by decide) hs rfl
  · refine .raised e _ ?_ hs rfl
    rintro rfl
    exact none_notMem_errorsOf i (bodyOf_raisesOnly i s _ hb)
  · exact .body i hi hs hl hb

theorem issue_effect {w : Word} {s t : State} (h : issue w s = .next t) : CommandEffect s t := by
  by_cases hs : s.phase = .error
  · by_cases hw : w = 0x01000000#32
    · subst hw; cases (issue_sreset_of_error hs).symm.trans h; exact .reset rfl
    · cases (issue_of_error hs hw).symm.trans h; exact .same rfl
  · cases hd : decode w with
    | error e => cases (issue_of_decode_error hs hd).symm.trans h; exact .raised _ _ (by decide) hs rfl
    | ok i => exact exec_effect ((issue_of_decode_ok hs hd).symm.trans h)

/-- A step takes an access off the list and returns a word, or a command acts on the state without the access. -/
theorem step_effect {s t : State} (h : step s = .next t) : ∃ s', HostOnly s s' ∧ CommandEffect s' t := by
  cases hp : s.pending with
  | nil =>
    have hwait : step s = .next s := by rw [step, serveHost, hp]
    cases hwait.symm.trans h
    exact ⟨s, ⟨_, _, rfl⟩, .same rfl⟩
  | cons a rest =>
    rw [step_of_pending hp] at h
    cases a with
    | hardReset => cases h; exact ⟨_, ⟨_, _, rfl⟩, .reset rfl⟩
    | read off bytes =>
      by_cases hsup : bytes = 4 ∧ off % 4 = 0
      · cases (hostAccess_read _ hsup).symm.trans h; exact ⟨_, ⟨_, _, rfl⟩, .same rfl⟩
      · cases (hostAccess_unsupported 0 _ hsup).1.symm.trans h
    | write off bytes v =>
      by_cases hsup : bytes = 4 ∧ off % 4 = 0
      · rw [hostAccess_write v _ hsup] at h
        by_cases hoff : off = 0
        · rw [hostWrite, if_pos hoff] at h; exact ⟨_, ⟨_, _, rfl⟩, issue_effect h⟩
        · rw [hostWrite, if_neg hoff] at h; cases h; exact ⟨_, ⟨_, _, rfl⟩, .same rfl⟩
      · cases (hostAccess_unsupported v _ hsup).2.symm.trans h

/-- What the reset, a raise and every body keep, and what does not look at the host's side, every step keeps. -/
theorem step_keeps {P : State → Prop} (hhost : ∀ s t, HostOnly s t → P s → P t)
    (hreset : ∀ s, P s → P (resetState s))
    (hraise : ∀ s e w, e ≠ ErrCode.none → s.phase ≠ .error → P s → P (raise e w s))
    (hbody : ∀ i s t, i ≠ .sreset → s.phase ≠ .error → legalIn i s.phase = true → bodyOf i s = .ok t → P s → P t)
    {s t : State} (hs : P s) (h : step s = .next t) : P t := by
  obtain ⟨s', hhs, heff⟩ := step_effect h
  have hs' := hhost s s' hhs hs
  cases heff with
  | same h => exact h ▸ hs'
  | reset h => exact h ▸ hreset s' hs'
  | raised e w he hp h => exact h ▸ hraise s' e w he hp hs'
  | body i hi hp hl hb => exact hbody i s' t hi hp hl hb hs'

/-! The error registers. -/

theorem errCoherent_resetState (s : State) : ErrCoherent (resetState s) := ⟨fun h => absurd rfl h, nofun⟩

theorem errCoherent_raise {e : ErrCode} (he : e ≠ .none) (w : Word) (s : State) : ErrCoherent (raise e w s) :=
  ⟨fun _ => rfl, fun _ => he⟩

/-- A body that raises nothing leaves the error registers, and the phase is not `ERROR` before or after it. -/
theorem errCoherent_of_body {i : Instr} {s t : State} (hi : i ≠ .sreset) (hp : s.phase ≠ .error)
    (hl : legalIn i s.phase = true) (hb : bodyOf i s = .ok t) (hs : ErrCoherent s) : ErrCoherent t := by
  have herr : t.err = s.err := by rw [bodyOf_writes hi s t hb]; exact (withWritten_errors i s t).1
  have hpt := bodyOf_phase_ne_error hp hl hb
  exact ⟨fun h => absurd (hs.mp (herr ▸ h)) hp, fun h => absurd h hpt⟩

/-- The error registers change with a raise or a reset only. -/
theorem CommandEffect.of_errors_ne {s t : State} (heff : CommandEffect s t)
    (hne : t.err ≠ s.err ∨ t.errcmd ≠ s.errcmd) : t.phase = .error ∧ s.phase ≠ .error ∨ AtReset t := by
  cases heff with
  | same h => subst h; simp at hne
  | reset h => subst h; exact .inr (atReset_resetState _)
  | raised e w he hp h => subst h; exact .inl ⟨rfl, hp⟩
  | body i hi hp hl hb =>
    obtain ⟨herr, hcmd⟩ := withWritten_errors i s t
    rw [bodyOf_writes hi s t hb] at hne
    exact (hne.elim (absurd herr) (absurd hcmd))

/-- Settles O15: a raise sets both registers, a reset clears them, nothing else writes them. -/
theorem errInvariant : Obligations.ErrInvariant := by
  refine ⟨fun s t hs h => ?invariant, fun s t h hne => ?writers⟩
  case invariant =>
    refine step_keeps ?_ (fun s _ => errCoherent_resetState s) (fun s e w he _ _ => errCoherent_raise he w s)
      (fun i s t => errCoherent_of_body) hs h
    rintro s _ ⟨_, _, rfl⟩ hs; exact hs
  case writers =>
    obtain ⟨_, ⟨_, _, rfl⟩, heff⟩ := step_effect h
    exact heff.of_errors_ne hne

end Sys2Proof.Machine
end

section
/-! SUPPORT. The field GF(256) (41_gf256.md R171, R176): the product without tables is linear in both factors and commutes
with doubling; as every non-zero element is a power of `0x02`, it is the product by tables, and the laws follow.
`GfMulLaws`, `GfTables`. -/
namespace Sys2Proof.Machine

/-! Doubling: multiplication by `0x02` (R176). -/

/-- `a * x` reduced by `0x11D`, in 8 bits. -/
def xtime (a : Byte) : Byte := a <<< 1 ^^^ (if a.getLsbD 7 then 0x1D#8 else 0#8)

theorem xtime_xor (a b : Byte) : xtime (a ^^^ b) = xtime a ^^^ xtime b := by
  have hcarry : (if (a ^^^ b).getLsbD 7 then 0x1D#8 else 0#8) =
      (if a.getLsbD 7 then 0x1D#8 else 0#8) ^^^ (if b.getLsbD 7 then 0x1D#8 else 0#8) := by
    rw [BitVec.getLsbD_xor]
    cases a.getLsbD 7 <;> cases b.getLsbD 7 <;> rfl
  rw [xtime, hcarry, BitVec.shiftLeft_xor_distrib, xtime, xtime]
  ac_rfl

theorem iterate_xtime_xor (n : Nat) (a b : Byte) : xtime^[n] (a ^^^ b) = xtime^[n] a ^^^ xtime^[n] b := by
  induction n generalizing a b with
  | zero => rfl
  | succ n ih => simp only [Function.iterate_succ_apply, xtime_xor, ih]

theorem iterate_xtime_zero (n : Nat) : xtime^[n] 0 = 0 := Function.iterate_fixed (by decide) n

/-- The round of R176 that doubles, with the ninth bit it uses for the carry. -/
theorem xtime_nine_bits : ∀ a : Byte,
    (if (a.setWidth 9 <<< 1).getLsbD 8 then (a.setWidth 9 <<< 1) ^^^ 0x11D#9 else a.setWidth 9 <<< 1) =
      (xtime a).setWidth 9 := by
  decide +kernel

/-! The product without tables. -/

/-- The sum of `a * x^i` over the set bits `i < n` of `b`. -/
def partialProduct (a b : Byte) : Nat → Byte
  | 0 => 0
  | n + 1 => partialProduct a b n ^^^ (if b.getLsbD n then xtime^[n] a else 0)

/-- After `n` rounds the accumulator is the partial product, and `a` has been doubled `n` times (R176). -/
theorem foldl_gfShiftRound (a b : Byte) (n : Nat) :
    (List.range n).foldl (gfShiftRound b) (0#9, a.setWidth 9) =
      ((partialProduct a b n).setWidth 9, (xtime^[n] a).setWidth 9) := by
  induction n with
  | zero => rfl
  | succ n ih =>
    rw [List.range_succ, List.foldl_append, ih, List.foldl_cons, List.foldl_nil, gfShiftRound,
      Function.iterate_succ_apply', ← xtime_nine_bits, partialProduct]
    congr 1
    cases b.getLsbD n
    · simp
    · simp [BitVec.setWidth_xor]

theorem gfMulShift_eq (a b : Byte) : gfMulShift a b = partialProduct a b 8 := by
  rw [gfMulShift, foldl_gfShiftRound, BitVec.setWidth_setWidth_of_le _ (by decide), BitVec.setWidth_eq]

theorem partialProduct_xor (a b c : Byte) (n : Nat) :
    partialProduct a (b ^^^ c) n = partialProduct a b n ^^^ partialProduct a c n := by
  induction n with
  | zero => exact (BitVec.xor_zero (x := 0#8)).symm
  | succ n ih =>
    have hbit : (if (b ^^^ c).getLsbD n then xtime^[n] a else 0) =
        (if b.getLsbD n then xtime^[n] a else 0) ^^^ (if c.getLsbD n then xtime^[n] a else 0) := by
      rw [BitVec.getLsbD_xor]
      cases b.getLsbD n <;> cases c.getLsbD n <;> simp
    rw [partialProduct, ih, hbit, partialProduct, partialProduct]
    ac_rfl

theorem partialProduct_xtime (a b : Byte) (n : Nat) : partialProduct (xtime a) b n = xtime (partialProduct a b n) := by
  induction n with
  | zero => exact (by decide : 0 = xtime 0)
  | succ n ih =>
    rw [partialProduct, partialProduct, ih, xtime_xor, ← Function.iterate_succ_apply, Function.iterate_succ_apply']
    cases b.getLsbD n
    · simp [xtime]
    · simp

/-- Doubling the first factor doubles the product. -/
theorem gfMulShift_iterate_xtime (m : Nat) (a b : Byte) : gfMulShift (xtime^[m] a) b = xtime^[m] (gfMulShift a b) := by
  induction m with
  | zero => rfl
  | succ m ih =>
    rw [Function.iterate_succ_apply', Function.iterate_succ_apply', ← ih, gfMulShift_eq, gfMulShift_eq,
      partialProduct_xtime]

/-- The doublings of `0x01` are the single bits. -/
theorem iterate_xtime_one_of_lt : ∀ n < 8, xtime^[n] 1 = BitVec.twoPow 8 n := by decide

/-- With `0x01` the partial products are the low bits of the other factor. -/
theorem getLsbD_one_partialProduct (b : Byte) {n : Nat} (h : n ≤ 8) (i : Nat) :
    (partialProduct 1 b n).getLsbD i = (decide (i < n) && b.getLsbD i) := by
  induction n with
  | zero => simp [partialProduct]
  | succ n ih =>
    rw [partialProduct, BitVec.getLsbD_xor, ih (by omega), iterate_xtime_one_of_lt n (by omega)]
    rcases Nat.lt_trichotomy i n with hi | rfl | hi
    · cases b.getLsbD n <;> simp [hi, show i < n + 1 by omega, show n ≠ i by omega]
    · cases hb : b.getLsbD i <;> simp [show i < 8 by omega]
    · cases b.getLsbD n <;> simp [show ¬i < n by omega, show ¬i < n + 1 by omega, show n ≠ i by omega]

theorem one_gfMulShift (b : Byte) : gfMulShift 1 b = b := by
  refine BitVec.eq_of_getLsbD_eq fun i hi => ?_
  rw [gfMulShift_eq, getLsbD_one_partialProduct b (Nat.le_refl 8), decide_eq_true hi, Bool.true_and]

theorem partialProduct_zero (a : Byte) (n : Nat) : partialProduct a 0 n = 0 := by
  induction n with
  | zero => rfl
  | succ n ih => rw [partialProduct, ih]; simp

theorem zero_partialProduct (b : Byte) (n : Nat) : partialProduct 0 b n = 0 := by
  induction n with
  | zero => rfl
  | succ n ih => rw [partialProduct, ih, iterate_xtime_zero]; simp

/-! The powers of `0x02` (R72). -/

/-- Each entry of `EXP` is the one before it doubled, a finite check of the table. -/
theorem gfExpOf_succ : ∀ e < 255, gfExpOf (e + 1) = xtime (gfExpOf e) := by decide +kernel

theorem gfExpOf_ne_zero : ∀ e < 256, gfExpOf e ≠ 0 := by decide +kernel

theorem gfExpOf_eq_iterate {e : Nat} (h : e ≤ 255) : gfExpOf e = xtime^[e] 1 := by
  induction e with
  | zero => decide
  | succ e ih => rw [gfExpOf_succ e (by omega), ih (by omega), Function.iterate_succ_apply']

/-- The powers of `0x02` repeat after 255 (R72). -/
theorem iterate_xtime_one (n : Nat) : xtime^[n] 1 = gfExpOf (n % 255) := by
  have hperiod : Function.IsPeriodicPt xtime 255 1 := (gfExpOf_eq_iterate (Nat.le_refl 255)).symm.trans (by decide +kernel)
  have hlt := Nat.mod_lt n (show 255 > 0 by decide)
  rw [gfExpOf_eq_iterate (by omega), hperiod.iterate_mod_apply]

/-- Every non-zero element is a power of `0x02`. -/
theorem exists_iterate_xtime {a : Byte} (h : a ≠ 0) : a = xtime^[gfLogOf a] 1 := by
  have hlt := gfLogOf_lt h
  rw [← gfExpOf_eq_iterate (by omega), gfExpOf_gfLogOf h]

/-- The product with a power of `0x02` is the other factor doubled so many times. -/
theorem gfMulShift_of_ne_zero {a : Byte} (h : a ≠ 0) (b : Byte) : gfMulShift a b = xtime^[gfLogOf a] b := by
  conv_lhs => rw [exists_iterate_xtime h, gfMulShift_iterate_xtime, one_gfMulShift]

/-! The product by tables (R171). -/

theorem gfMul_zero_left (b : Byte) : gfMul 0 b = 0 := if_pos (.inl rfl)

theorem gfMul_zero_right (a : Byte) : gfMul a 0 = 0 := if_pos (.inr rfl)

theorem gfMul_of_ne_zero {a b : Byte} (ha : a ≠ 0) (hb : b ≠ 0) :
    gfMul a b = gfExpOf ((gfLogOf a + gfLogOf b) % 255) := if_neg (not_or.mpr ⟨ha, hb⟩)

/-- The two definitions agree: both add logarithms. -/
theorem gfMulShift_eq_gfMul (a b : Byte) : gfMulShift a b = gfMul a b := by
  by_cases ha : a = 0
  · rw [ha, gfMulShift_eq, zero_partialProduct, gfMul_zero_left]
  by_cases hb : b = 0
  · rw [hb, gfMulShift_eq, partialProduct_zero, gfMul_zero_right]
  rw [gfMulShift_of_ne_zero ha, gfMul_of_ne_zero ha hb, ← iterate_xtime_one, Function.iterate_add_apply,
    ← exists_iterate_xtime hb]

theorem gfMul_comm (a b : Byte) : gfMul a b = gfMul b a := by
  simp only [gfMul, or_comm (a := b = 0), Nat.add_comm (gfLogOf b)]

theorem gfMul_assoc (a b c : Byte) : gfMul (gfMul a b) c = gfMul a (gfMul b c) := by
  by_cases ha : a = 0
  · rw [ha, gfMul_zero_left, gfMul_zero_left, gfMul_zero_left]
  · simp only [← gfMulShift_eq_gfMul, gfMulShift_of_ne_zero ha, gfMulShift_iterate_xtime]

theorem gfMul_one (a : Byte) : gfMul a 1 = a := by rw [gfMul_comm, one_gfMul]

theorem gfMul_xor (a b c : Byte) : gfMul a (b ^^^ c) = gfMul a b ^^^ gfMul a c := by
  simp only [← gfMulShift_eq_gfMul, gfMulShift_eq, partialProduct_xor]

theorem xor_gfMul (a b c : Byte) : gfMul (a ^^^ b) c = gfMul a c ^^^ gfMul b c := by
  rw [gfMul_comm, gfMul_xor, gfMul_comm c a, gfMul_comm c b]

theorem gfMul_eq_zero {a b : Byte} (h : gfMul a b = 0) : a = 0 ∨ b = 0 := by
  by_contra hne
  obtain ⟨ha, hb⟩ := not_or.mp hne
  have hlt := Nat.mod_lt (gfLogOf a + gfLogOf b) (show 255 > 0 by decide)
  rw [gfMul_of_ne_zero ha hb] at h
  exact gfExpOf_ne_zero _ (by omega) h

/-- Settles O20: the product without tables doubles one factor as often as the logarithm of the other says. -/
theorem gfMulLaws : Obligations.GfMulLaws := by
  refine ⟨gfMulShift_eq_gfMul, gfMul_comm, gfMul_assoc, fun a => ⟨gfMul_one a, gfMul_zero_right a⟩, gfMul_xor,
    fun a b => gfMul_eq_zero, fun a ha => ?_⟩
  have hlog : gfLogOf 2 = 1 := by decide +kernel
  rw [gfMul_of_ne_zero ha (by decide), hlog]

/-! The tables. -/

/-- The roots of the generator polynomials, a finite check of the table (R75, R76). -/
theorem polyEval_generator : ∀ r ∈ validR, ∀ i < r, polyEval (gfExpOf i) ((List.range (r + 1)).map (gfGenOf r)) = 0 := by
  decide +kernel

/-- Settles O21: the entries of the three tables are compared one by one. -/
theorem gfTables : Obligations.GfTables := by
  refine ⟨⟨by decide, fun e he => ?_⟩, fun a ha => ⟨gfLogOf_lt ha, gfExpOf_gfLogOf ha⟩,
    fun r hr => ⟨gfGenOf_zero hr, polyEval_generator r hr⟩⟩
  have htwo : xtime^[gfLogOf 2] (gfExpOf e) = xtime (gfExpOf e) := by
    rw [show gfLogOf 2 = 1 by decide +kernel, Function.iterate_one]
  rw [gfExpOf_succ e he, gfMulShift_eq_gfMul, gfMul_comm, ← gfMulShift_eq_gfMul, gfMulShift_of_ne_zero (by decide), htwo]

end Sys2Proof.Machine
end

section
/-! SUPPORT. Polynomials over the field (R230, R240): Horner's rule, its linearity, and coefficients that are 0 below or
above a range. -/
namespace Sys2Proof.Machine

theorem byte_xor_zero (a : Byte) : a ^^^ 0 = a := BitVec.xor_zero

theorem byte_zero_xor (a : Byte) : 0 ^^^ a = a := BitVec.zero_xor

theorem polyEval_append_singleton (x : Byte) (c : List Byte) (b : Byte) :
    polyEval x (c ++ [b]) = gfMul (polyEval x c) x ^^^ b := List.foldl_append

/-- Horner's rule from any start: the start is shifted past the whole sequence (R240). -/
theorem foldl_horner (x acc : Byte) (c : List Byte) :
    c.foldl (fun acc b => gfMul acc x ^^^ b) acc = gfMul acc (gfPow x c.length) ^^^ powerSum x c := by
  induction c generalizing acc with
  | nil => rw [List.foldl_nil, List.length_nil, gfPow, gfMul_one, powerSum, byte_xor_zero]
  | cons b c ih =>
    have hshift : gfMul (gfMul acc x) (gfPow x c.length) = gfMul acc (gfPow x (c.length + 1)) := by
      rw [gfMul_assoc, gfMul_comm x, ← gfPow]
    rw [List.foldl_cons, ih, xor_gfMul, hshift, powerSum, List.length_cons, BitVec.xor_assoc]

/-- Horner's rule is the sum of powers (R240). -/
theorem polyEval_eq_powerSum (x : Byte) (c : List Byte) : polyEval x c = powerSum x c := by
  rw [polyEval, foldl_horner, gfMul_zero_left, byte_zero_xor]

/-- The coefficients `f 0, ..., f (n - 1)`, highest power first, as a polynomial evaluated at `x`. -/
def valueBelow (x : Byte) (f : Nat → Byte) (n : Nat) : Byte := polyEval x ((List.range n).map f)

theorem valueBelow_succ (x : Byte) (f : Nat → Byte) (n : Nat) :
    valueBelow x f (n + 1) = gfMul (valueBelow x f n) x ^^^ f n := by
  rw [valueBelow, List.range_succ, List.map_append, List.map_singleton, polyEval_append_singleton, valueBelow]

theorem valueBelow_congr {x : Byte} {f g : Nat → Byte} {n : Nat} (h : ∀ i < n, f i = g i) :
    valueBelow x f n = valueBelow x g n := by
  rw [valueBelow, valueBelow, List.map_congr_left fun i hi => h i (List.mem_range.mp hi)]

theorem valueBelow_xor (x : Byte) (f g : Nat → Byte) (n : Nat) :
    valueBelow x (fun i => f i ^^^ g i) n = valueBelow x f n ^^^ valueBelow x g n := by
  induction n with
  | zero => exact (byte_xor_zero 0).symm
  | succ n ih =>
    rw [valueBelow_succ, ih, xor_gfMul, valueBelow_succ, valueBelow_succ]
    ac_rfl

theorem valueBelow_gfMul (x c : Byte) (f : Nat → Byte) (n : Nat) :
    valueBelow x (fun i => gfMul (f i) c) n = gfMul (valueBelow x f n) c := by
  induction n with
  | zero => exact (gfMul_zero_left c).symm
  | succ n ih => rw [valueBelow_succ, ih, valueBelow_succ, xor_gfMul, gfMul_assoc, gfMul_comm c, ← gfMul_assoc]

/-- Leading zeros do not count. -/
theorem valueBelow_of_zero_below {x : Byte} {f : Nat → Byte} {m : Nat} (h : ∀ i < m, f i = 0) (n : Nat) :
    valueBelow x f (m + n) = valueBelow x (fun i => f (m + i)) n := by
  induction n with
  | succ n ih => rw [← Nat.add_assoc, valueBelow_succ, ih, valueBelow_succ]
  | zero =>
    show valueBelow x f m = 0
    induction m with
    | zero => rfl
    | succ m ih =>
      rw [valueBelow_succ, ih fun i hi => h i (by omega), gfMul_zero_left, h m (by omega), byte_xor_zero]

/-- Trailing zeros keep a root a root. -/
theorem valueBelow_of_zero_from {x : Byte} {f : Nat → Byte} {m n : Nat} (hroot : valueBelow x f m = 0)
    (h : ∀ i, m ≤ i → f i = 0) (hmn : m ≤ n) : valueBelow x f n = 0 := by
  induction n, hmn using Nat.le_induction with
  | base => exact hroot
  | succ n hn ih => rw [valueBelow_succ, ih, gfMul_zero_left, h n hn, byte_xor_zero]

end Sys2Proof.Machine
end

section
/-! SUPPORT. Several commands of one kind in a row, and the syndrome calculator fed with a sequence (R240, R242);
`Syndromes`. -/
namespace Sys2Proof.Machine

theorem execAll_append {p q : List Instr} {s t : State} (h : execAll p s = .next t) :
    execAll (p ++ q) s = execAll q t := by
  induction p generalizing s with
  | nil => cases h; rfl
  | cons i p ih =>
    obtain ⟨u, hu⟩ := exec_next i s
    rw [execAll_cons hu] at h
    rw [List.cons_append, execAll_cons hu, ih h]

/-- One command that is legal in any phase for each element of a list: the bodies in a row, as none leaves the phase. -/
theorem execAll_map_of_bodies {α : Type} {f : α → Instr} (hany : ∀ a p, legalIn (f a) p = p.isAny)
    (harrow : ∀ a, arrow (f a) = none) {l : List α} {s t : State} (hs : s.phase ≠ .error)
    (h : l.foldlM (fun t a => bodyOf (f a) t) s = .ok t) : execAll (l.map f) s = .next t := by
  induction l generalizing s with
  | nil => cases h; rfl
  | cons a l ih =>
    rw [List.foldlM_cons] at h
    obtain ⟨u, hu, hrest⟩ := bind_eq_ok.mp h
    have hne : f a ≠ .plBit := by
      intro hbit
      have hidle := hany a .idle
      rw [hbit] at hidle
      cases hidle
    have hphase : u.phase = s.phase := by
      rw [bodyOf_phase hne (by rw [hany]; exact decide_eq_true hs) u hu, harrow, Option.getD_none]
    rw [List.map_cons, execAll_cons (exec_of_body_ok (hany a) hs hu)]
    exact ih (hphase ▸ hs) hrest

/-- `SYN_CLR r` (R241). -/
def synCleared (r : Byte) (s : State) : State :=
  { s with synR := BitVec.ofNat 5 r.toNat, syn := List.replicate 30 0 }

/-- `SYN_IN` of every byte of `c` in a configured calculator (R242). -/
def synFed (c : List Byte) (s : State) : State :=
  { s with syn := c.foldl (fun syn b => synHorner s.synR.toNat b syn) s.syn }

theorem toNat_synR_synCleared {r : Byte} (s : State) (h30 : r.toNat ≤ 30) : (synCleared r s).synR.toNat = r.toNat := by
  rw [synCleared, BitVec.toNat_ofNat, Nat.mod_eq_of_lt (by omega)]

theorem foldlM_synInBody (c : List Byte) {s : State} (h : s.synR ≠ 0) :
    c.foldlM (fun t b => synInBody b t) s = .ok (synFed c s) := by
  induction c generalizing s with
  | nil => rfl
  | cons b c ih => rw [List.foldlM_cons, synInBody_of_configured b h, ok_bind, ih (by exact h)]; rfl

/-- Each accumulator in use has been through Horner's rule (R242). -/
theorem synAt_synFed (c : List Byte) (s : State) {j : Nat} (hj : j < s.synR.toNat) :
    (synFed c s).synAt j = c.foldl (fun acc b => gfMul acc (gfExpOf j) ^^^ b) (s.synAt j) := by
  induction c generalizing s with
  | nil => rfl
  | cons b c ih =>
    have hnext := ih { s with syn := synHorner s.synR.toNat b s.syn } hj
    rw [List.foldl_cons]
    refine hnext.trans ?_
    congr 1
    exact (readAt_synHorner s.synR.toNat b s.syn j).trans (if_pos hj)

theorem synAt_synCleared (r : Byte) (s : State) {j : Nat} (hj : j < 30) : (synCleared r s).synAt j = 0 :=
  (readAt_replicate Config.unwrittenSyn 30 0 j).trans (if_pos hj)

/-- `SYN_CLR r` and then the sequence `c`. -/
theorem execAll_synClr_synIn {s : State} {r : Byte} (c : List Byte) (hs : s.phase ≠ .error) (h1 : 1 ≤ r.toNat)
    (h30 : r.toNat ≤ 30) : execAll (.synClr r :: c.map .synIn) s = .next (synFed c (synCleared r s)) := by
  have hclear : exec (.synClr r) s = .next (synCleared r s) :=
    exec_of_body_ok (fun _ => rfl) hs (synClrBody_of_count s ⟨h1, h30⟩)
  have hr := toNat_synR_synCleared s h30
  have hconfigured : (synCleared r s).synR ≠ 0 := by
    intro h0
    rw [h0] at hr
    simp only [BitVec.ofNat_eq_ofNat, BitVec.toNat_ofNat, Nat.zero_mod] at hr
    omega
  rw [execAll_cons hclear]
  exact execAll_map_of_bodies (fun _ _ => rfl) (fun _ => rfl) (s := synCleared r s) hs (foldlM_synInBody c hconfigured)

/-- Syndrome `j` of a sequence is its value at the `j`-th power of `0x02` (R240). -/
theorem synAt_synFed_synCleared {r : Byte} (c : List Byte) (s : State) (h30 : r.toNat ≤ 30) {j : Nat}
    (hj : j < r.toNat) : (synFed c (synCleared r s)).synAt j = polyEval (gfExpOf j) c := by
  rw [synAt_synFed c _ (by rwa [toNat_synR_synCleared s h30]), synAt_synCleared r s (by omega), polyEval]

/-- Settles O38: the accumulators start at 0 and go through Horner's rule. -/
theorem syndromes : Obligations.Syndromes := by
  refine fun s r c hs h1 h30 => ⟨_, execAll_synClr_synIn c hs h1 h30, rfl, toNat_synR_synCleared s h30, fun j hj => ?_⟩
  rw [synAt_synFed_synCleared c s h30 hj, polyEval_eq_powerSum]

end Sys2Proof.Machine
end

section
/-! SUPPORT. The division keeps the value of the buffer at the roots of the generator (R230, R231), `RsRemainder`, and
the divider's invariant under every step, `RsInvariant` (R30, R31). -/
namespace Sys2Proof.Machine

/-- What a division step adds to byte `i`: a multiple of the generator, aligned with the head (R231). -/
def generatorMultiple (s : State) (i : Nat) : Byte :=
  if s.rsHead.toNat ≤ i ∧ i < s.rsHead.toNat + (s.rsR.toNat + 1) then
    gfMul (gfGenOf s.rsR.toNat (i - s.rsHead.toNat)) (s.rsAt s.rsHead.toNat)
  else 0

/-- With a leading byte 0 the multiple is 0 too. -/
theorem rsAt_rsStep_eq_xor (s : State) (i : Nat) : (rsStep s).rsAt i = s.rsAt i ^^^ generatorMultiple s i := by
  rw [rsAt_rsStep, generatorMultiple]
  by_cases hlead : s.rsAt s.rsHead.toNat = 0
  · rw [if_neg fun h => h.1 hlead, hlead, gfMul_zero_right, ite_self, byte_xor_zero]
  · by_cases hi : s.rsHead.toNat ≤ i ∧ i < s.rsHead.toNat + (s.rsR.toNat + 1)
    · rw [if_pos ⟨hlead, hi⟩, if_pos hi]
    · rw [if_neg fun h => hi h.2, if_neg hi, byte_xor_zero]

/-- The multiple vanishes at the roots of the generator (R75). -/
theorem valueBelow_generatorMultiple {s : State} {j n : Nat} (hr : s.rsR.toNat ∈ validR) (hj : j < s.rsR.toNat)
    (hn : s.rsHead.toNat + (s.rsR.toNat + 1) ≤ n) : valueBelow (gfExpOf j) (generatorMultiple s) n = 0 := by
  have hbelow : ∀ i < s.rsHead.toNat, generatorMultiple s i = 0 := fun i hi => if_neg (by omega)
  have hfrom : ∀ i, s.rsHead.toNat + (s.rsR.toNat + 1) ≤ i → generatorMultiple s i = 0 := fun i hi => if_neg (by omega)
  have hroot : valueBelow (gfExpOf j) (gfGenOf s.rsR.toNat) (s.rsR.toNat + 1) = 0 := polyEval_generator _ hr j hj
  have hcoeff : ∀ i < s.rsR.toNat + 1, generatorMultiple s (s.rsHead.toNat + i) =
      gfMul (gfGenOf s.rsR.toNat i) (s.rsAt s.rsHead.toNat) := fun i hi => by
    rw [generatorMultiple, if_pos (by omega), Nat.add_sub_cancel_left]
  refine valueBelow_of_zero_from ?_ hfrom hn
  rw [valueBelow_of_zero_below hbelow, valueBelow_congr hcoeff, valueBelow_gfMul, hroot, gfMul_zero_left]

theorem polyEval_rsInUse (x : Byte) (s : State) :
    polyEval x s.rsInUse = valueBelow x s.rsAt (s.rsK.toNat + s.rsR.toNat) := rfl

theorem polyEval_rsInUse_rsStep {s : State} {j : Nat} (hr : s.rsR.toNat ∈ validR) (hj : j < s.rsR.toNat)
    (hhead : s.rsHead.toNat < s.rsK.toNat) :
    polyEval (gfExpOf j) (rsStep s).rsInUse = polyEval (gfExpOf j) s.rsInUse := by
  rw [polyEval_rsInUse, valueBelow_congr fun i _ => rsAt_rsStep_eq_xor s i, valueBelow_xor, rsStep_rsK, rsStep_rsR,
    valueBelow_generatorMultiple hr hj (by omega), byte_xor_zero, polyEval_rsInUse]

theorem polyEval_rsInUse_rsSteps {n : Nat} {s : State} {j : Nat} (hr : s.rsR.toNat ∈ validR) (hj : j < s.rsR.toNat)
    (hn : s.rsHead.toNat + n ≤ s.rsK.toNat) :
    polyEval (gfExpOf j) (rsSteps n s).rsInUse = polyEval (gfExpOf j) s.rsInUse := by
  induction n generalizing s with
  | zero => rfl
  | succ n ih =>
    have hhead : s.rsHead.toNat < s.rsK.toNat := by omega
    rw [rsSteps, ih (s := rsStep s) hr hj (by rw [toNat_rsHead_rsStep hhead, rsStep_rsK]; omega),
      polyEval_rsInUse_rsStep hr hj hhead]

/-- Settles O35: each step keeps the value at the roots, and makes one more byte 0. -/
theorem rsRemainder : Obligations.RsRemainder := by
  intro s t hs hc hr hfill h
  obtain ⟨hvalid, -, -, -, hhead, -, -, -⟩ := hc.2 hr
  have hn : s.rsHead.toNat + (s.rsK.toNat - s.rsHead.toNat) ≤ s.rsK.toNat := by omega
  obtain ⟨u, hu, -, -, -, hzero⟩ := (rsRun s hs).2.2 hr hfill hhead
  cases h.symm.trans hu
  cases h.symm.trans (exec_of_body_ok (fun _ => rfl) hs (rsRunBody_of_loaded hr hfill))
  exact ⟨hzero hc, fun j hj => polyEval_rsInUse_rsSteps hvalid hj hn⟩

/-! The invariant. -/

theorem rsCoherent_resetState (s : State) : RsCoherent (resetState s) := ⟨fun _ => ⟨rfl, rfl, rfl⟩, fun h => absurd rfl h⟩

/-- The invariant is about the divider's registers and buffer. -/
theorem RsCoherent.of_eq {s t : State} (hs : RsCoherent s) (hk : t.rsK = s.rsK) (hr : t.rsR = s.rsR)
    (hfill : t.rsFill = s.rsFill) (hhead : t.rsHead = s.rsHead) (hbuf : t.rsbuf = s.rsbuf) : RsCoherent t := by
  unfold RsCoherent State.rsAt at hs ⊢
  rwa [hk, hr, hfill, hhead, hbuf]

/-- A count of parity bytes fits its 5-bit register and is not 0. -/
theorem toNat_ofNat_of_mem_validR {r : Nat} (h : r ∈ validR) : (BitVec.ofNat 5 r).toNat = r := by
  have := le_of_mem_validR h
  rw [BitVec.toNat_ofNat, Nat.mod_eq_of_lt (by omega)]

theorem pos_of_mem_validR {r : Nat} (h : r ∈ validR) : 0 < r := by
  revert r; decide

theorem rsCoherent_rsCfgBody (k r : Nat) (s : State) : Ensures (rsCfgBody k r s) RsCoherent := by
  refine .bind fun _ hk => .bind fun _ hr => .bind fun _ hsum => ?_
  rw [require_eq_ok] at hk hr hsum
  have hr5 := toNat_ofNat_of_mem_validR hr
  have hk8 : (BitVec.ofNat 8 k).toNat = k := by rw [BitVec.toNat_ofNat, Nat.mod_eq_of_lt (by omega)]
  have hpos := pos_of_mem_validR hr
  refine .ok ⟨fun h0 => ?unconfigured, fun _ => ?configured⟩
  case unconfigured =>
    rw [show BitVec.ofNat 5 r = 0 from h0] at hr5
    simp at hr5; omega
  case configured =>
    simp only [hr5, hk8]
    exact ⟨hr, hk, hsum, Nat.zero_le _, Nat.zero_le _, fun h => absurd h (by decide), List.length_replicate,
      fun i hi => absurd hi (Nat.not_lt_zero i)⟩

theorem rsCoherent_rsDataBody (d : Byte) {s : State} (hs : RsCoherent s) : Ensures (rsDataBody d s) RsCoherent := by
  refine .bind fun _ hr => .bind fun _ hload => .ok ?_
  rw [require_eq_ok] at hr hload
  obtain ⟨hvalid, hk, hsum, -, -, -, hlen, -⟩ := hs.2 hr
  obtain ⟨hhead, hfill⟩ := hload
  have hfill8 : (BitVec.ofNat 8 (s.rsFill.toNat + 1)).toNat = s.rsFill.toNat + 1 := by
    rw [BitVec.toNat_ofNat, Nat.mod_eq_of_lt (by omega)]
  have hhead0 : s.rsHead.toNat = 0 := by rw [hhead]; rfl
  refine ⟨fun h => absurd h hr, fun _ => ⟨hvalid, hk, hsum, ?_, ?_, ?_, ?_, ?_⟩⟩
  · exact Nat.le_trans (Nat.le_of_eq hfill8) hfill
  · exact Nat.le_trans (Nat.le_of_eq hhead0) (Nat.zero_le _)
  · exact fun h => absurd (hhead0 ▸ h) (Nat.lt_irrefl 0)
  · exact (length_writeAt ..).trans (by omega)
  · exact fun i hi => absurd (hhead0 ▸ hi) (Nat.not_lt_zero i)

theorem rsCoherent_rsStepBody {s : State} (hs : RsCoherent s) : Ensures (rsStepBody s) RsCoherent := by
  refine .bind fun _ hr => .bind fun _ hload => .ok ?_
  rw [require_eq_ok] at hr hload
  exact rsCoherent_rsStep hs hr hload.1 hload.2

theorem rsCoherent_rsRunBody {s : State} (hs : RsCoherent s) : Ensures (rsRunBody s) RsCoherent := by
  refine .bind fun _ hr => .bind fun _ hload => .ok ?_
  rw [require_eq_ok] at hr hload
  obtain ⟨-, -, -, -, hhead, -, -, -⟩ := hs.2 hr
  exact rsCoherent_rsSteps hs hr hload (by omega)

/-- `ECC_RUN` uses the divider through its commands only (R250). -/
theorem rsCoherent_codeBlock (b : Nat) (s : State) : Ensures (codeBlock b s) RsCoherent :=
  .bind fun s1 h1 => .bind fun s2 h2 => .bind fun s3 h3 => .ok <|
    have hs1 := rsCoherent_rsCfgBody _ _ s s1 h1
    have hs2 := Ensures.foldlM (P := RsCoherent) (fun _ _ _ ht => rsCoherent_rsDataBody _ ht) hs1 s2 h2
    rsCoherent_rsRunBody hs2 s3 h3

theorem rsCoherent_eccRunBody {s : State} (hs : RsCoherent s) : Ensures (eccRunBody s) RsCoherent :=
  .bind fun _ _ => .bind fun s1 h1 => .bind fun _ _ => .ok <|
    Ensures.foldlM (P := RsCoherent) (fun t b _ _ => rsCoherent_codeBlock b t) hs s1 h1

/-- Every body keeps the divider's invariant: five commands have the divider for their subject, the others leave it. -/
theorem rsCoherent_bodyOf {i : Instr} {s t : State} (hi : i ≠ .sreset) (hb : bodyOf i s = .ok t) (hs : RsCoherent s) :
    RsCoherent t := by
  by_cases hrs : mnemonic i ∈ ["RS_CFG", "RS_DATA", "RS_STEP", "RS_RUN", "ECC_RUN"]
  · cases i
    case rsCfg k r => exact rsCoherent_rsCfgBody k.toNat r.toNat s t hb
    case rsData d => exact rsCoherent_rsDataBody d hs t hb
    case rsStep => exact rsCoherent_rsStepBody hs t hb
    case rsRun => exact rsCoherent_rsRunBody hs t hb
    case eccRun => exact rsCoherent_eccRunBody hs t hb
    all_goals exact absurd hrs (by simp [mnemonic])
  · have hsub : ∀ names : List String, names ⊆ ["RS_CFG", "RS_DATA", "RS_STEP", "RS_RUN", "ECC_RUN"] →
        mnemonic i ∉ names := fun _ h hmem => hrs (h hmem)
    rw [bodyOf_writes hi s t hb]
    obtain ⟨hk, hr⟩ := withWritten_rsCounts (hsub _ (by decide)) s t
    exact hs.of_eq hk hr (withWritten_rsFill (hsub _ (by decide)) s t) (withWritten_rsHead (hsub _ (by decide)) s t)
      (withWritten_rsbuf hrs s t)

theorem rsCoherent_hostOnly {s t : State} : HostOnly s t → RsCoherent s → RsCoherent t := by
  rintro ⟨_, _, rfl⟩ hs; exact hs

/-- Settles O40: the divider's own commands keep the invariant, every other effect leaves the divider or resets it. -/
theorem rsInvariant : Obligations.RsInvariant := fun _ _ hs h =>
  step_keeps (fun _ _ => rsCoherent_hostOnly) (fun s _ => rsCoherent_resetState s) (fun _ _ _ _ _ hs => hs)
    (fun _ _ _ hi _ _ => rsCoherent_bodyOf hi) hs h

end Sys2Proof.Machine
end

section
/-! SUPPORT. A block of bytes through the divider (R232 to R235): configure, load, run. The buffer afterwards depends on
the bytes and the parity count alone: 0, then the parity, then 0. -/
namespace Sys2Proof.Machine

/-! Configure and load. -/

/-- The divider configured for `k` data and `r` parity bytes (R232). -/
def rsConfigured (k r : Nat) (s : State) : State :=
  { s with
    rsK := BitVec.ofNat 8 k, rsR := BitVec.ofNat 5 r, rsFill := 0, rsHead := 0, rsbuf := List.replicate 255 0 }

/-- `RS_DATA` of every byte of `d` (R233). -/
def rsLoaded (d : List Byte) (s : State) : State :=
  { s with
    rsbuf := writeFrom Config.unwrittenRsbuf s.rsbuf s.rsFill.toNat d, rsFill := s.rsFill + BitVec.ofNat 8 d.length }

/-- The divider with the bytes `d` loaded and `r` parity bytes to compute. -/
def rsReady (d : List Byte) (r : Nat) (s : State) : State := rsLoaded d (rsConfigured d.length r s)

/-- The bytes `d` with `r` parity bytes through the divider: `RS_CFG`, `RS_DATA` of each, `RS_RUN`. -/
def rsDivided (d : List Byte) (r : Nat) (s : State) : State := rsSteps d.length (rsReady d r s)

/-- A block the divider takes: `RS_CFG` accepts its counts (R232). -/
structure FitsDivider (d : List Byte) (r : Nat) : Prop where
  count : r ∈ validR
  nonempty : 1 ≤ d.length
  fits : d.length + r ≤ 255

theorem foldlM_rsDataBody (d : List Byte) {s : State} (hr : s.rsR ≠ 0) (hhead : s.rsHead = 0)
    (hfit : s.rsFill.toNat + d.length ≤ s.rsK.toNat) :
    d.foldlM (fun t b => rsDataBody b t) s = .ok (rsLoaded d s) := by
  induction d generalizing s with
  | nil => exact congrArg (fun fill => Except.ok { s with rsFill := fill }) (BitVec.add_zero s.rsFill).symm
  | cons b d ih =>
    rw [List.length_cons] at hfit
    have hK := s.rsK.isLt
    have hnext : (s.rsFill + 1).toNat = s.rsFill.toNat + 1 := by bv_omega
    have hcount : s.rsFill + 1 + BitVec.ofNat 8 d.length = s.rsFill + BitVec.ofNat 8 (d.length + 1) := by bv_omega
    rw [List.foldlM_cons, rsDataBody_of_loading b hr ⟨hhead, by omega⟩, ok_bind]
    refine (ih (s := { s with
      rsbuf := writeAt Config.unwrittenRsbuf s.rsbuf s.rsFill.toNat b, rsFill := s.rsFill + 1 }) hr hhead
      (by simp only [hnext]; omega)).trans ?_
    simp only [rsLoaded, hnext, hcount, writeFrom, List.length_cons]

/-- Before the run the bytes stand at the start of a buffer that is 0 elsewhere. -/
theorem rsAt_rsReady (d : List Byte) (r : Nat) (s : State) {i : Nat} (hi : i < 255) :
    (rsReady d r s).rsAt i = d.getD i 0 := by
  refine (readAt_writeFrom Config.unwrittenRsbuf d (List.replicate 255 0) 0 i).trans ?_
  rw [List.getD_eq_getElem?_getD]
  by_cases h : i < d.length
  · rw [if_pos ⟨Nat.zero_le _, by omega⟩, readAt, Nat.sub_zero, List.getElem?_eq_getElem h]
    rfl
  · rw [if_neg (by omega), readAt_replicate, if_pos hi, List.getElem?_eq_none (by omega)]
    rfl

theorem rsFill_rsReady (d : List Byte) (r : Nat) (s : State) : (rsReady d r s).rsFill = (rsReady d r s).rsK :=
  BitVec.zero_add _

/-- The divider's counters after the run, and everything else as before. -/
theorem rsDivided_frame (d : List Byte) (r : Nat) (s : State) : rsDivided d r s = { s with
    rsK := BitVec.ofNat 8 d.length, rsR := BitVec.ofNat 5 r, rsFill := BitVec.ofNat 8 d.length,
    rsHead := BitVec.ofNat 8 d.length, rsbuf := (rsDivided d r s).rsbuf } := by
  have hfill : (rsReady d r s).rsFill = BitVec.ofNat 8 d.length := rsFill_rsReady d r s
  have hhead : (rsReady d r s).rsHead + BitVec.ofNat 8 d.length = BitVec.ofNat 8 d.length := BitVec.zero_add _
  rw [rsDivided, rsSteps_frame, hhead, hfill]
  rfl

/-! The division looks at the divider only. -/

theorem rsbuf_rsStep_congr {s s' : State} (hbuf : s.rsbuf = s'.rsbuf) (hhead : s.rsHead = s'.rsHead)
    (hr : s.rsR = s'.rsR) : (rsStep s).rsbuf = (rsStep s').rsbuf := by
  unfold rsStep State.rsAt
  simp only [hbuf, hhead, hr]

theorem rsbuf_rsSteps_congr (n : Nat) {s s' : State} (hbuf : s.rsbuf = s'.rsbuf) (hhead : s.rsHead = s'.rsHead)
    (hr : s.rsR = s'.rsR) : (rsSteps n s).rsbuf = (rsSteps n s').rsbuf := by
  induction n generalizing s s' with
  | zero => exact hbuf
  | succ n ih =>
    exact ih (rsbuf_rsStep_congr hbuf hhead hr) (by rw [rsStep_rsHead, rsStep_rsHead, hhead]) hr

theorem rsbuf_rsDivided_eq (d : List Byte) (r : Nat) (s s' : State) :
    (rsDivided d r s).rsbuf = (rsDivided d r s').rsbuf := rsbuf_rsSteps_congr _ rfl rfl rfl

/-- A step leaves what lies past the generator. -/
theorem rsAt_rsSteps_of_ge {n : Nat} {s : State} {i : Nat} (hn : s.rsHead.toNat + n ≤ s.rsK.toNat)
    (hi : s.rsHead.toNat + n + s.rsR.toNat ≤ i) : (rsSteps n s).rsAt i = s.rsAt i := by
  induction n generalizing s with
  | zero => rfl
  | succ n ih =>
    have hhead := toNat_rsHead_rsStep (s := s) (by omega)
    have hrR : (rsStep s).rsR.toNat = s.rsR.toNat := rfl
    have hrK : (rsStep s).rsK.toNat = s.rsK.toNat := rfl
    rw [rsSteps, ih (by omega) (by omega), rsAt_rsStep, if_neg (by omega)]

/-! The block through the divider. -/

section
variable {d : List Byte} {r : Nat} (hb : FitsDivider d r)
include hb

theorem FitsDivider.toNat_length : (BitVec.ofNat 8 d.length).toNat = d.length := by
  have := hb.fits
  rw [BitVec.toNat_ofNat, Nat.mod_eq_of_lt (by omega)]

theorem FitsDivider.rsR_ne_zero : BitVec.ofNat 5 r ≠ 0 := by
  intro h0
  have hr5 := toNat_ofNat_of_mem_validR hb.count
  have hpos := pos_of_mem_validR hb.count
  rw [h0] at hr5
  exact absurd hpos (by rw [← hr5]; decide)

theorem FitsDivider.rsCfgBody (s : State) : rsCfgBody d.length r s = .ok (rsConfigured d.length r s) :=
  rsCfgBody_of_valid s hb.nonempty hb.count hb.fits

theorem FitsDivider.loads (s : State) :
    d.foldlM (fun t b => rsDataBody b t) (rsConfigured d.length r s) = .ok (rsReady d r s) := by
  refine foldlM_rsDataBody d hb.rsR_ne_zero rfl ?_
  show 0 + d.length ≤ (BitVec.ofNat 8 d.length).toNat
  rw [Nat.zero_add, hb.toNat_length]

theorem FitsDivider.steps_left (s : State) :
    (rsReady d r s).rsK.toNat - (rsReady d r s).rsHead.toNat = d.length := hb.toNat_length

theorem FitsDivider.rsRunBody (s : State) : rsRunBody (rsReady d r s) = .ok (rsDivided d r s) := by
  rw [rsRunBody_of_loaded hb.rsR_ne_zero (rsFill_rsReady d r s), hb.steps_left, rsDivided]

/-- The three kinds of command in a row. -/
theorem FitsDivider.execAll {s : State} (hs : s.phase ≠ .error) {k8 r8 : Byte} (hk8 : k8.toNat = d.length)
    (hr8 : r8.toNat = r) : execAll (.rsCfg k8 r8 :: d.map .rsData ++ [.rsRun]) s = .next (rsDivided d r s) := by
  have hcfg : exec (.rsCfg k8 r8) s = .next (rsConfigured d.length r s) :=
    exec_of_body_ok (fun _ => rfl) hs (by rw [bodyOf, hk8, hr8]; exact hb.rsCfgBody s)
  have hload : Machine.execAll (d.map .rsData) (rsConfigured d.length r s) = .next (rsReady d r s) :=
    execAll_map_of_bodies (fun _ _ => rfl) (fun _ => rfl) (s := rsConfigured d.length r s) hs (hb.loads s)
  have hrun : exec .rsRun (rsReady d r s) = .next (rsDivided d r s) :=
    exec_of_body_ok (fun _ => rfl) (s := rsReady d r s) hs (hb.rsRunBody s)
  rw [List.cons_append, execAll_cons hcfg, execAll_append hload, execAll_cons hrun]
  rfl

theorem FitsDivider.rsCoherent_ready (s : State) : RsCoherent (rsReady d r s) :=
  Ensures.foldlM (P := RsCoherent) (fun _ _ _ ht => rsCoherent_rsDataBody _ ht)
    (rsCoherent_rsCfgBody d.length r s _ (hb.rsCfgBody s)) _ (hb.loads s)

theorem FitsDivider.rsCoherent_divided (s : State) : RsCoherent (rsDivided d r s) :=
  rsCoherent_rsRunBody (hb.rsCoherent_ready s) _ (hb.rsRunBody s)

/-- The data part is 0 after the run. -/
theorem FitsDivider.rsAt_of_lt (s : State) {i : Nat} (hi : i < d.length) : (rsDivided d r s).rsAt i = 0 := by
  have hframe := rsDivided_frame d r s
  obtain ⟨-, -, -, -, -, -, -, hzero⟩ := (hb.rsCoherent_divided s).2 (by rw [hframe]; exact hb.rsR_ne_zero)
  refine hzero i ?_
  rw [hframe]
  exact hb.toNat_length.symm ▸ hi

/-- Past the parity the buffer is 0 after the run. -/
theorem FitsDivider.rsAt_of_ge (s : State) {i : Nat} (hi : d.length + r ≤ i) (hi255 : i < 255) :
    (rsDivided d r s).rsAt i = 0 := by
  have hhead : (rsReady d r s).rsHead.toNat = 0 := rfl
  have hK : (rsReady d r s).rsK.toNat = d.length := hb.toNat_length
  have hR : (rsReady d r s).rsR.toNat = r := toNat_ofNat_of_mem_validR hb.count
  rw [rsDivided, rsAt_rsSteps_of_ge (by omega) (by omega), rsAt_rsReady d r s hi255,
    List.getD_eq_getElem?_getD, List.getElem?_eq_none (by omega)]
  rfl

/-- Data followed by `r` zeros and zeros followed by the parity have the same value at the generator's roots. -/
theorem FitsDivider.value_eq (s : State) {j : Nat} (hj : j < r) :
    valueBelow (gfExpOf j) (rsDivided d r s).rsAt (d.length + r) =
      valueBelow (gfExpOf j) (fun i => d.getD i 0) (d.length + r) := by
  have hhead : (rsReady d r s).rsHead.toNat = 0 := rfl
  have hK : (rsReady d r s).rsK.toNat = d.length := hb.toNat_length
  have hR : (rsReady d r s).rsR.toNat = r := toNat_ofNat_of_mem_validR hb.count
  have hkept := polyEval_rsInUse_rsSteps (n := d.length) (s := rsReady d r s) (j := j) (hR.symm ▸ hb.count)
    (hR.symm ▸ hj) (by omega)
  have hK' : (rsDivided d r s).rsK.toNat = d.length := by rw [rsDivided_frame]; exact hb.toNat_length
  have hR' : (rsDivided d r s).rsR.toNat = r := by rw [rsDivided_frame]; exact toNat_ofNat_of_mem_validR hb.count
  rw [← rsDivided, polyEval_rsInUse, polyEval_rsInUse, hK, hR, hK', hR'] at hkept
  have hfits := hb.fits
  rw [hkept, valueBelow_congr fun i hi => rsAt_rsReady d r s (by omega)]

end

end Sys2Proof.Machine
end

section
/-! SUPPORT. The parity-check property (R245): a block followed by its parity vanishes at the roots of the generator, and
the first syndrome sees one changed byte; `ParityCheck`. -/
namespace Sys2Proof.Machine

/-- The parity bytes the divider leaves for the block `d` (R235). -/
def parityOf (d : List Byte) (r : Nat) (s : State) : List Byte :=
  (List.range r).map fun j => (rsDivided d r s).rsAt (d.length + j)

theorem polyEval_eq_valueBelow (x : Byte) (c : List Byte) : polyEval x c = valueBelow x (fun i => c.getD i 0) c.length := by
  have hlist : c = (List.range c.length).map fun i => c.getD i 0 := by
    refine List.ext_getElem (by simp) fun i h1 h2 => ?_
    simp [h1]
  rw [valueBelow, ← hlist]

theorem length_append_parityOf (d : List Byte) (r : Nat) (s : State) : (d ++ parityOf d r s).length = d.length + r := by
  simp [parityOf]

/-- The codeword is the difference of what was divided and what the division left. -/
theorem getD_append_parityOf {d : List Byte} {r : Nat} (hb : FitsDivider d r) (s : State) {i : Nat}
    (hi : i < d.length + r) :
    (d ++ parityOf d r s).getD i 0 = d.getD i 0 ^^^ (rsDivided d r s).rsAt i := by
  rw [List.getD_eq_getElem?_getD, List.getD_eq_getElem?_getD]
  by_cases hd : i < d.length
  · rw [List.getElem?_append_left hd, hb.rsAt_of_lt s hd, byte_xor_zero]
  · have hparity : (parityOf d r s)[i - d.length]? = some ((rsDivided d r s).rsAt i) := by
      rw [parityOf, List.getElem?_map, List.getElem?_range (by omega), Option.map_some,
        show d.length + (i - d.length) = i by omega]
    rw [List.getElem?_append_right (by omega), hparity, List.getElem?_eq_none (by omega)]
    exact (byte_zero_xor _).symm

/-- A block followed by its parity has all syndromes 0 (R245). -/
theorem FitsDivider.polyEval_codeword {d : List Byte} {r : Nat} (hb : FitsDivider d r) (s : State) {j : Nat}
    (hj : j < r) : polyEval (gfExpOf j) (d ++ parityOf d r s) = 0 := by
  rw [polyEval_eq_valueBelow, length_append_parityOf, valueBelow_congr fun i hi => getD_append_parityOf hb s hi,
    valueBelow_xor, hb.value_eq s hj]
  exact BitVec.xor_self

theorem gfPow_one (n : Nat) : gfPow 1 n = 1 := by
  induction n with
  | zero => rfl
  | succ n ih => rw [gfPow, ih, gfMul_one]

/-- At `0x01` Horner's rule adds the bytes up, so one changed byte changes it, whatever the start. -/
theorem foldl_horner_one_set_ne {bytes : List Byte} {i : Nat} {b : Byte} (hi : i < bytes.length) (hb : b ≠ bytes[i])
    (acc : Byte) : (bytes.set i b).foldl (fun acc b => gfMul acc 1 ^^^ b) acc ≠
      bytes.foldl (fun acc b => gfMul acc 1 ^^^ b) acc := by
  induction bytes generalizing i acc with
  | nil => exact absurd hi (Nat.not_lt_zero i)
  | cons a bytes ih =>
    cases i with
    | zero =>
      intro h
      rw [List.set_cons_zero, List.foldl_cons, List.foldl_cons, foldl_horner, foldl_horner] at h
      simp only [gfPow_one, gfMul_one, BitVec.xor_left_inj, BitVec.xor_right_inj] at h
      exact hb h
    | succ i =>
      rw [List.set_cons_succ, List.foldl_cons, List.foldl_cons]
      exact ih (Nat.lt_of_succ_lt_succ hi) hb _

/-! `SYN_OK` on a sequence. -/

theorem gfExpOf_zero : gfExpOf 0 = 1 := by decide

theorem exec_synOk {s : State} (hs : s.phase ≠ .error) (hr : s.synR ≠ 0) :
    exec .synOk s = .next (setRes (if s.synAllZero then 1 else 0) s) :=
  exec_of_body_ok (fun _ => rfl) hs (by rw [bodyOf, synOkBody, require_true hr, ok_bind])

section
variable {s : State} {r : Byte} (hs : s.phase ≠ .error) (h1 : 1 ≤ r.toNat) (h30 : r.toNat ≤ 30)
include hs h1 h30

/-- Clear, feed, test. -/
theorem execAll_synOk (bytes : List Byte) : execAll (.synClr r :: bytes.map .synIn ++ [.synOk]) s =
    .next (setRes (if (synFed bytes (synCleared r s)).synAllZero then 1 else 0) (synFed bytes (synCleared r s))) := by
  have hr := toNat_synR_synCleared s h30
  have hconfigured : (synFed bytes (synCleared r s)).synR ≠ 0 := by
    intro h0
    rw [show (synCleared r s).synR = 0 from h0] at hr
    rw [← hr] at h1
    exact absurd h1 (by decide)
  rw [execAll_append (execAll_synClr_synIn bytes hs h1 h30),
    execAll_cons (exec_synOk (s := synFed bytes (synCleared r s)) hs hconfigured)]
  rfl

/-- All values 0: the test answers 1. -/
theorem synOk_of_zero {bytes : List Byte} (h : ∀ j < r.toNat, polyEval (gfExpOf j) bytes = 0) :
    ∃ t, execAll (.synClr r :: bytes.map .synIn ++ [.synOk]) s = .next t ∧ t.res = 1 := by
  refine ⟨_, execAll_synOk hs h1 h30 bytes, ?_⟩
  have hr := toNat_synR_synCleared s h30
  have hzero : (synFed bytes (synCleared r s)).synAllZero = true := (synAllZero_eq_true_iff _).mpr fun j hj => by
    have hj' : j < r.toNat := hr ▸ hj
    rw [synAt_synFed_synCleared bytes s h30 hj', h j hj']
  rw [setRes_res, if_pos hzero]

/-- A sum of bytes that is not 0, which is the first syndrome: the test answers 0. -/
theorem synOk_of_nonzero {bytes : List Byte} (h : polyEval 1 bytes ≠ 0) :
    ∃ t, execAll (.synClr r :: bytes.map .synIn ++ [.synOk]) s = .next t ∧ t.res = 0 := by
  refine ⟨_, execAll_synOk hs h1 h30 bytes, ?_⟩
  have hr := toNat_synR_synCleared s h30
  have hnonzero : ¬(synFed bytes (synCleared r s)).synAllZero = true := fun hall => by
    have hfirst := (synAllZero_eq_true_iff _).mp hall 0 (hr.symm ▸ h1)
    rw [synAt_synFed_synCleared bytes s h30 h1, gfExpOf_zero] at hfirst
    exact h hfirst
  rw [setRes_res, if_neg hnonzero]

end

/-- The worked block of R237 vanishes at the first seven powers of `0x02`. -/
theorem polyEval_worked_block : ∀ j < 7,
    polyEval (gfExpOf j) [0x12, 0x34, 0x56, 0x7C, 0xEB, 0xA3, 0x19, 0xCB, 0xD3, 0x45] = 0 := by
  decide +kernel

/-- Settles O39: the codeword vanishes at the roots, and a changed byte changes the sum of the bytes, its value at
`0x01`. -/
theorem parityCheck : Obligations.ParityCheck := by
  refine ⟨fun s k r d hs hlen hk hr hsum => ?code, fun s hs => ?worked⟩
  case code =>
    have hb : FitsDivider d r.toNat := ⟨hr, by omega, by omega⟩
    have h1 := pos_of_mem_validR hr
    have h30 := le_of_mem_validR hr
    have hphase : (rsDivided d r.toNat s).phase ≠ .error := by rw [rsDivided_frame]; exact hs
    refine ⟨rsDivided d r.toNat s, hb.execAll hs hlen.symm rfl, ?_⟩
    rw [← hlen]
    change (∃ t2, execAll (.synClr r :: (d ++ parityOf d r.toNat s).map .synIn ++ [.synOk]) _ = _ ∧ _) ∧ _
    refine ⟨synOk_of_zero hphase h1 h30 fun j hj => hb.polyEval_codeword s hj, fun i hi b hne => ?_⟩
    rw [← length_append_parityOf d r.toNat s] at hi
    have hbyte : b ≠ (d ++ parityOf d r.toNat s)[i] := by
      rintro rfl
      exact hne (List.getElem?_eq_getElem hi).symm
    refine synOk_of_nonzero hphase h1 h30 fun h0 => foldl_horner_one_set_ne hi hbyte 0 (h0.trans ?_)
    exact (gfExpOf_zero ▸ hb.polyEval_codeword s h1).symm
  case worked =>
    refine ⟨_, execAll_synClr_synIn _ hs (by decide) (by decide), fun j hj => ?_⟩
    rw [synAt_synFed_synCleared _ s (by decide) hj, polyEval_worked_block j hj]

end Sys2Proof.Machine
end

section
/-! SUPPORT. A well-formed record of `ROM_VSPEC` (R85 to R87), and what the blocks of a symbol are. -/
namespace Sys2Proof.Machine

/-- What a well-formed record promises of its numbers (R85). -/
structure VSpecFacts (x : VSpec) : Prop where
  count : x.r ∈ validR
  n1 : 1 ≤ x.n1
  d1 : 1 ≤ x.d1
  d2 : x.n2 = 0 ∨ 1 ≤ x.d2
  fits1 : x.d1 + x.r ≤ 255
  fits2 : x.n2 = 0 ∨ x.d2 + x.r ≤ 255
  nb : x.n1 + x.n2 ≤ 81
  total : x.n1 * (x.d1 + x.r) + x.n2 * (x.d2 + x.r) = x.total
  dataBytes : x.dataBytes ≤ 2956
  total_le : x.total ≤ 3706

theorem vspecFacts_of_wf {x : VSpec} (h : x.wf = true) : VSpecFacts x := by
  simp only [VSpec.wf, Bool.and_eq_true, Bool.or_eq_true, decide_eq_true_eq, List.contains_iff_mem] at h
  obtain ⟨⟨⟨⟨⟨⟨⟨⟨⟨hr, hn1⟩, hd1⟩, hd2⟩, hf1⟩, hf2⟩, hnb⟩, ht⟩, hdb⟩, htl⟩ := h
  exact ⟨hr, hn1, hd1, hd2, hf1, hf2, hnb, ht, hdb, htl⟩

section
variable {x : VSpec} (hx : VSpecFacts x)
include hx

theorem VSpecFacts.nb_pos : 0 < x.nb := Nat.lt_of_lt_of_le hx.n1 (Nat.le_add_right ..)

theorem VSpecFacts.blkLen_pos {b : Nat} (hb : b < x.nb) : 1 ≤ x.blkLen b := by
  have := hx.d1
  have := hx.d2
  unfold VSpec.nb at hb
  unfold VSpec.blkLen
  split <;> omega

theorem VSpecFacts.blkLen_add_le {b : Nat} (hb : b < x.nb) : x.blkLen b + x.r ≤ 255 := by
  have := hx.fits1
  have := hx.fits2
  unfold VSpec.nb at hb
  unfold VSpec.blkLen
  split <;> omega

theorem VSpecFacts.total_eq : x.dataBytes + x.r * x.nb = x.total := by
  rw [← hx.total, VSpec.dataBytes, VSpec.nb]
  ring

end

/-- No block is longer than `MAXD` (R86). -/
theorem blkLen_le_maxD {x : VSpec} {b : Nat} (hb : b < x.nb) : x.blkLen b ≤ x.maxD := by
  unfold VSpec.nb at hb
  unfold VSpec.blkLen VSpec.maxD
  split <;> split <;> omega

/-- The data bytes of the blocks together (R86). -/
theorem sum_blkLen (x : VSpec) : ((List.range x.nb).map x.blkLen).sum = x.dataBytes := by
  have hfirst : (List.range x.n1).map x.blkLen = List.replicate x.n1 x.d1 :=
    List.eq_replicate_iff.mpr ⟨by simp, fun n hn => by
      obtain ⟨b, hb, rfl⟩ := List.mem_map.mp hn
      exact if_pos (List.mem_range.mp hb)⟩
  have hsecond : ((List.range x.n2).map (x.n1 + ·)).map x.blkLen = List.replicate x.n2 x.d2 :=
    List.eq_replicate_iff.mpr ⟨by simp, fun n hn => by
      obtain ⟨b, hb, rfl⟩ := List.mem_map.mp hn
      obtain ⟨c, -, rfl⟩ := List.mem_map.mp hb
      exact if_neg (by omega)⟩
  rw [VSpec.nb, List.range_add, List.map_append, List.sum_append, hfirst, hsecond, List.sum_replicate,
    List.sum_replicate]
  rfl

/-! The data of a block (R87, R194). -/

theorem length_blockData (s : State) (b : Nat) : (s.blockData b).length = s.vspec.blkLen b := by
  simp [State.blockData]

theorem fitsDivider_blockData {s : State} (hx : VSpecFacts s.vspec) {b : Nat} (hb : b < s.vspec.nb) :
    FitsDivider (s.blockData b) s.vspec.r :=
  ⟨hx.count, by rw [length_blockData]; exact hx.blkLen_pos hb, by rw [length_blockData]; exact hx.blkLen_add_le hb⟩

/-- The divider and the parity memory do not show in the data of a block. -/
theorem DividerOnly.blockData_eq {s t : State} (h : DividerOnly s t) (b : Nat) :
    t.vspec = s.vspec ∧ t.blockData b = s.blockData b ∧ t.phase = s.phase := by
  obtain ⟨_, _, _, _, _, _, rfl⟩ := h; exact ⟨rfl, rfl, rfl⟩

end Sys2Proof.Machine
end

section
/-! SUPPORT. The blocks coded one after the other (R250). -/
namespace Sys2Proof.Machine

/-! The parity of one block, stored. -/

theorem parAt_storeParity (b k r : Nat) (s : State) (b' j : Nat) :
    (storeParity b k r s).parAt b' j = if b' = b ∧ j < r then s.rsAt (k + j) else s.parAt b' j := by
  induction r with
  | zero => rw [if_neg (by omega)]; rfl
  | succ r ih =>
    have hstep : (storeParity b k (r + 1) s).par =
        writeAt2 Config.unwrittenPar (storeParity b k r s).par b r (s.rsAt (k + r)) := by
      rw [storeParity, List.range_succ, List.foldl_append]; rfl
    rw [State.parAt, hstep, readAt2_writeAt2]
    by_cases h : b' = b ∧ j = r
    · rw [if_pos h, if_pos ⟨h.1, by omega⟩, h.2]
    · rw [if_neg h]
      refine ih.trans ?_
      by_cases h' : b' = b ∧ j < r
      · rw [if_pos h', if_pos ⟨h'.1, by omega⟩]
      · rw [if_neg h', if_neg (by omega)]

/-- The parity rows stored so far, then the row of the next block (R33). -/
theorem par_storeParity {b r : Nat} (k : Nat) {s : State} (hlen : s.par.length = b) (hr : 0 < r) :
    (storeParity b k r s).par = s.par ++ [(List.range r).map fun j => s.rsAt (k + j)] := by
  induction r, hr using Nat.le_induction with
  | base =>
    show writeAt2 Config.unwrittenPar s.par b 0 (s.rsAt k) = _
    rw [writeAt2, ← hlen, List.getElem?_eq_none (Nat.le_refl _), writeAt_length]
    rfl
  | succ r hr ih =>
    have hstep : (storeParity b k (r + 1) s).par =
        writeAt2 Config.unwrittenPar (storeParity b k r s).par b r (s.rsAt (k + r)) := by
      rw [storeParity, List.range_succ, List.foldl_append]; rfl
    have hrow : ((List.range r).map fun j => s.rsAt (k + j)).length = r := by simp
    rw [hstep, ih, writeAt2, List.getElem?_append_right (by omega), writeAt_of_lt _ _ _ (by simp; omega), hlen,
      Nat.sub_self, List.getElem?_cons_zero, Option.getD_some]
    have hcell : writeAt (Config.unwrittenPar b) ((List.range r).map fun j => s.rsAt (k + j)) r (s.rsAt (k + r)) =
        (List.range (r + 1)).map fun j => s.rsAt (k + j) := by
      have happ := writeAt_length (Config.unwrittenPar b) ((List.range r).map fun j => s.rsAt (k + j)) (s.rsAt (k + r))
      rw [hrow] at happ
      rw [happ, List.range_succ, List.map_append]
      rfl
    rw [hcell, List.set_append_right _ _ (by omega), hlen, Nat.sub_self]
    rfl

/-! All blocks. -/

/-- The state after the blocks `0 .. n - 1` of `s` (R250). -/
def blocksCoded (s : State) : Nat → State
  | 0 => s
  | n + 1 =>
    storeParity n (s.vspec.blkLen n) s.vspec.r (rsDivided (s.blockData n) s.vspec.r (blocksCoded s n))

theorem rsDivided_dividerOnly (d : List Byte) (r : Nat) (s : State) : DividerOnly s (rsDivided d r s) :=
  rsDivided_frame d r s ▸ ⟨_, _, _, _, _, _, rfl⟩

theorem blocksCoded_dividerOnly (s : State) (n : Nat) : DividerOnly s (blocksCoded s n) := by
  induction n with
  | zero => exact .refl s
  | succ n ih => exact ih.trans ((rsDivided_dividerOnly _ _ _).trans ⟨_, _, _, _, _, _, rfl⟩)

/-- One block: the divider's three kinds of command on its data, then its parity stored. -/
theorem codeBlock_eq {t : State} (hx : VSpecFacts t.vspec) {b : Nat} (hb : b < t.vspec.nb) :
    codeBlock b t = .ok (storeParity b (t.vspec.blkLen b) t.vspec.r (rsDivided (t.blockData b) t.vspec.r t)) := by
  have hfits := fitsDivider_blockData hx hb
  have hcfg := hfits.rsCfgBody t
  have hload : loadBlock (t.vspec.blkOff b) (t.vspec.blkLen b) (rsConfigured (t.vspec.blkLen b) t.vspec.r t) =
      .ok (rsReady (t.blockData b) t.vspec.r t) := by
    have hdata := hfits.loads t
    rw [length_blockData, State.blockData, List.foldlM_map] at hdata
    exact hdata
  have hrun := hfits.rsRunBody t
  rw [length_blockData] at hcfg
  rw [codeBlock, hcfg, ok_bind, hload, ok_bind, hrun, ok_bind]

theorem foldlM_codeBlock {s : State} (hx : VSpecFacts s.vspec) {n : Nat} (hn : n ≤ s.vspec.nb) :
    (List.range n).foldlM (fun t b => codeBlock b t) s = .ok (blocksCoded s n) := by
  induction n with
  | zero => rfl
  | succ n ih =>
    obtain ⟨hvspec, hdata, -⟩ := (blocksCoded_dividerOnly s n).blockData_eq n
    rw [List.range_succ, List.foldlM_append, ih (by omega), ok_bind, List.foldlM_cons,
      codeBlock_eq (hvspec.symm ▸ hx) (by rw [hvspec]; omega), hvspec, hdata, ok_bind]
    rfl

/-- The parity of block `b` is what the divider leaves for its data (R250). -/
theorem parAt_blocksCoded (s : State) (n b j : Nat) :
    (blocksCoded s n).parAt b j =
      if b < n ∧ j < s.vspec.r then (rsDivided (s.blockData b) s.vspec.r s).rsAt (s.vspec.blkLen b + j)
      else s.parAt b j := by
  induction n with
  | zero => rw [if_neg (by omega)]; rfl
  | succ n ih =>
    have hbuf : ∀ i, (rsDivided (s.blockData n) s.vspec.r (blocksCoded s n)).rsAt i =
        (rsDivided (s.blockData n) s.vspec.r s).rsAt i := fun i => by
      rw [State.rsAt, rsbuf_rsDivided_eq _ _ _ s, State.rsAt]
    have hpar : (rsDivided (s.blockData n) s.vspec.r (blocksCoded s n)).parAt b j = (blocksCoded s n).parAt b j := by
      rw [rsDivided_frame]; rfl
    rw [blocksCoded, parAt_storeParity, hbuf, hpar, ih]
    by_cases h : b = n ∧ j < s.vspec.r
    · obtain ⟨rfl, hj⟩ := h
      rw [if_pos ⟨rfl, hj⟩, if_pos ⟨by omega, hj⟩]
    · rw [if_neg h]
      by_cases h' : b < n ∧ j < s.vspec.r
      · rw [if_pos h', if_pos ⟨by omega, h'.2⟩]
      · rw [if_neg h', if_neg (by omega)]

end Sys2Proof.Machine
end

section
/-! SUPPORT. The interleaver (R251): the place of each codeword in the columns. -/
namespace Sys2Proof.Machine

/-- An element of a concatenation of lists stands after everything in the lists before its own. -/
theorem getElem?_flatMap_range {α : Type} (f : Nat → List α) {n a j : Nat} (ha : a < n) (hj : j < (f a).length) :
    ((List.range n).flatMap f)[((List.range a).map fun i => (f i).length).sum + j]? = (f a)[j]? := by
  induction n with
  | zero => omega
  | succ n ih =>
    rw [List.range_succ, List.flatMap_append, List.flatMap_singleton]
    rcases Nat.lt_or_eq_of_le (Nat.le_of_lt_succ ha) with h | rfl
    · have hat := ih h
      rw [List.getElem?_eq_getElem hj] at hat
      rw [List.getElem?_append_left (List.getElem?_eq_some_iff.mp hat).1, hat, List.getElem?_eq_getElem hj]
    · rw [← List.length_flatMap, List.getElem?_append_right (Nat.le_add_right ..), Nat.add_sub_cancel_left]

/-- The blocks that reach column `col`, counted one by one or by a filter. -/
theorem sum_reaching_eq_length_filter (x : VSpec) (col : Nat) (l : List Nat) :
    (l.map fun k => if col < x.blkLen k then 1 else 0).sum = (l.filter fun k => col < x.blkLen k).length := by
  induction l with
  | nil => rfl
  | cons k l ih =>
    rw [List.map_cons, List.sum_cons, ih]
    by_cases h : col < x.blkLen k
    · rw [List.filter_cons_of_pos (by simpa using h), if_pos h, List.length_cons, Nat.add_comm]
    · rw [List.filter_cons_of_neg (by simpa using h), if_neg h, Nat.zero_add]

/-- One column of data codewords: from every block that has one (R251). -/
def dataColumn (s : State) (col : Nat) : List Byte :=
  (List.range s.vspec.nb).flatMap fun b =>
    if col < s.vspec.blkLen b then [s.dbyte (s.vspec.blkOff b + col)] else []

/-- One column of parity codewords (R251). -/
def parityColumn (s : State) (col : Nat) : List Byte := (List.range s.vspec.nb).map fun b => s.parAt b col

theorem length_dataColumn (s : State) (col : Nat) :
    (dataColumn s col).length = ((List.range s.vspec.nb).map fun k => if col < s.vspec.blkLen k then 1 else 0).sum := by
  rw [dataColumn, List.length_flatMap]
  congr 2
  funext b
  split <;> rfl

theorem sum_length_dataColumn (s : State) (col : Nat) :
    ((List.range col).map fun c => (dataColumn s c).length).sum =
      ((List.range s.vspec.nb).map fun k => min col (s.vspec.blkLen k)).sum := by
  induction col with
  | zero => simp
  | succ col ih =>
    rw [List.range_succ, List.map_append, List.sum_append, ih, List.map_singleton, List.sum_singleton,
      length_dataColumn, ← List.sum_map_add]
    congr 2
    funext k
    split <;> omega

theorem length_dataColumns (s : State) : (dataColumns s).length = s.vspec.dataBytes := by
  have hcols : dataColumns s = (List.range s.vspec.maxD).flatMap (dataColumn s) := rfl
  rw [hcols, List.length_flatMap, sum_length_dataColumn, ← sum_blkLen]
  congr 1
  exact List.map_congr_left fun b hb => Nat.min_eq_right (blkLen_le_maxD (List.mem_range.mp hb))

theorem length_parityColumn (s : State) (col : Nat) : (parityColumn s col).length = s.vspec.nb := by
  simp [parityColumn]

theorem sum_length_parityColumn (s : State) (col : Nat) :
    ((List.range col).map fun c => (parityColumn s c).length).sum = col * s.vspec.nb := by
  simp [length_parityColumn]

theorem length_parityColumns (s : State) : (parityColumns s).length = s.vspec.r * s.vspec.nb := by
  have hcols : parityColumns s = (List.range s.vspec.r).flatMap (parityColumn s) := rfl
  rw [hcols, List.length_flatMap, sum_length_parityColumn]

theorem length_interleaved {s : State} (hx : VSpecFacts s.vspec) : (interleaved s).length = s.vspec.total := by
  rw [interleaved, List.length_append, length_dataColumns, length_parityColumns, hx.total_eq]

/-- The data codeword of block `b` in column `col` (R251). -/
theorem interleaved_dataPosition (s : State) {b col : Nat} (hb : b < s.vspec.nb) (hcol : col < s.vspec.blkLen b) :
    (interleaved s)[dataPosition s.vspec b col]? = some (s.dbyte (s.vspec.blkOff b + col)) := by
  have hinner : (dataColumn s col)[((List.range b).filter fun k => col < s.vspec.blkLen k).length]? =
      some (s.dbyte (s.vspec.blkOff b + col)) := by
    have hat := getElem?_flatMap_range (j := 0)
      (fun b => if col < s.vspec.blkLen b then [s.dbyte (s.vspec.blkOff b + col)] else []) hb
      (by rw [if_pos hcol]; exact Nat.one_pos)
    rw [if_pos hcol] at hat
    rw [← sum_reaching_eq_length_filter, dataColumn]
    refine Eq.trans ?_ hat
    congr 4
    funext k
    split <;> rfl
  have hmax : col < s.vspec.maxD := Nat.lt_of_lt_of_le hcol (blkLen_le_maxD hb)
  have hlt := (List.getElem?_eq_some_iff.mp hinner).1
  have houter := getElem?_flatMap_range (dataColumn s) hmax hlt
  rw [sum_length_dataColumn, hinner] at houter
  have hdata : (dataColumns s)[dataPosition s.vspec b col]? = some (s.dbyte (s.vspec.blkOff b + col)) := houter
  rw [interleaved, List.getElem?_append_left (List.getElem?_eq_some_iff.mp hdata).1, hdata]

/-- The parity codeword of block `b` in column `col` (R251). -/
theorem interleaved_parityPosition (s : State) {b col : Nat} (hb : b < s.vspec.nb) (hcol : col < s.vspec.r) :
    (interleaved s)[parityPosition s.vspec b col]? = some (s.parAt b col) := by
  have houter := getElem?_flatMap_range (parityColumn s) (j := b) hcol (by rw [length_parityColumn]; exact hb)
  rw [sum_length_parityColumn, parityColumn, List.getElem?_map, List.getElem?_range hb] at houter
  rw [interleaved, parityPosition, Nat.add_assoc, ← length_dataColumns,
    List.getElem?_append_right (Nat.le_add_right ..), Nat.add_sub_cancel_left]
  exact houter

end Sys2Proof.Machine
end

section
namespace Sys2Proof.Machine

/-- The state `ECC_RUN` leaves (R250, R251). -/
def eccCoded (s : State) : State :=
  let t := blocksCoded s s.vspec.nb
  { t with cw := writeFrom Config.unwrittenCw t.cw 0 (interleaved t), cwlen := BitVec.ofNat 12 s.vspec.total, phase := .coded }

theorem eccRunBody_eq {s : State} (hx : VSpecFacts s.vspec) (hlen : s.bitlen.toNat = 8 * s.vspec.dataBytes) :
    eccRunBody s = .ok (eccCoded s) := by
  obtain ⟨hvspec, -, -⟩ := (blocksCoded_dividerOnly s s.vspec.nb).blockData_eq 0
  have htotal : (interleaved (blocksCoded s s.vspec.nb)).length = s.vspec.total := by
    rw [length_interleaved (hvspec.symm ▸ hx), hvspec]
  rw [eccRunBody, require_true hlen, ok_bind, foldlM_codeBlock hx (Nat.le_refl _), ok_bind]
  dsimp only
  rw [require_true htotal, ok_bind]
  rfl

theorem cwAt_eccCoded (s : State) (n : Nat) :
    (eccCoded s).cwAt n = ((interleaved (blocksCoded s s.vspec.nb))[n]?).getD (s.cwAt n) := by
  have hcw : (blocksCoded s s.vspec.nb).cw = s.cw := by
    obtain ⟨_, _, _, _, _, _, h⟩ := blocksCoded_dividerOnly s s.vspec.nb; rw [h]
  refine (readAt_writeFrom ..).trans ?_
  rw [hcw]
  by_cases h : n < (interleaved (blocksCoded s s.vspec.nb)).length
  · rw [if_pos ⟨Nat.zero_le _, by omega⟩, readAt, Nat.sub_zero, List.getElem?_eq_getElem h]; rfl
  · rw [if_neg (by omega), List.getElem?_eq_none (by omega)]; rfl

theorem cwAt_eccCoded_of_total_le {s : State} (hx : VSpecFacts s.vspec) {n : Nat} (hn : s.vspec.total ≤ n) :
    (eccCoded s).cwAt n = s.cwAt n := by
  obtain ⟨hvspec, -, -⟩ := (blocksCoded_dividerOnly s s.vspec.nb).blockData_eq 0
  rw [cwAt_eccCoded, List.getElem?_eq_none]
  · rfl
  · rw [length_interleaved (hvspec.symm ▸ hx), hvspec]; exact hn

theorem cwAt_eccCoded_dataPosition {s : State} {b col : Nat} (hb : b < s.vspec.nb)
    (hcol : col < s.vspec.blkLen b) :
    (eccCoded s).cwAt (dataPosition s.vspec b col) = s.dbyte (s.vspec.blkOff b + col) := by
  obtain ⟨_, _, _, _, _, _, ht⟩ := blocksCoded_dividerOnly s s.vspec.nb
  have hvspec : (blocksCoded s s.vspec.nb).vspec = s.vspec := by rw [ht]; rfl
  have hbyte : ∀ i, (blocksCoded s s.vspec.nb).dbyte i = s.dbyte i := fun i => by rw [ht]; rfl
  have hat := interleaved_dataPosition (blocksCoded s s.vspec.nb) (hvspec.symm ▸ hb) (hvspec.symm ▸ hcol)
  rw [hvspec, hbyte] at hat
  rw [cwAt_eccCoded, hat]
  rfl

theorem cwAt_eccCoded_parityPosition {s : State} {b col : Nat} (hb : b < s.vspec.nb)
    (hcol : col < s.vspec.r) :
    (eccCoded s).cwAt (parityPosition s.vspec b col) = (eccCoded s).parAt b col := by
  obtain ⟨hvspec, -, -⟩ := (blocksCoded_dividerOnly s s.vspec.nb).blockData_eq 0
  have hat := interleaved_parityPosition (blocksCoded s s.vspec.nb) (hvspec.symm ▸ hb) (hvspec.symm ▸ hcol)
  rw [hvspec] at hat
  rw [cwAt_eccCoded, hat]
  rfl

/-- The divider after the last block (R250): its parity behind zeros. -/
theorem rsAt_eccCoded {s : State} (hx : VSpecFacts s.vspec) (i : Nat) :
    (eccCoded s).rsAt i = (rsDivided (s.blockData (s.vspec.nb - 1)) s.vspec.r s).rsAt i := by
  obtain ⟨n, hn⟩ := Nat.exists_eq_succ_of_ne_zero (Nat.pos_iff_ne_zero.mp hx.nb_pos)
  have hlast : (eccCoded s).rsbuf = (rsDivided (s.blockData n) s.vspec.r (blocksCoded s n)).rsbuf := by
    rw [eccCoded, hn]; rfl
  rw [State.rsAt, hlast, rsbuf_rsDivided_eq _ _ _ s, hn]
  rfl

/-- The registers of the divider after the last block, and the frame of `ECC_RUN` (R250). -/
theorem eccCoded_frame {s : State} (hx : VSpecFacts s.vspec) : eccCoded s = { s with
    rsK := BitVec.ofNat 8 (s.vspec.blkLen (s.vspec.nb - 1)), rsR := BitVec.ofNat 5 s.vspec.r
    rsFill := BitVec.ofNat 8 (s.vspec.blkLen (s.vspec.nb - 1))
    rsHead := BitVec.ofNat 8 (s.vspec.blkLen (s.vspec.nb - 1))
    rsbuf := (eccCoded s).rsbuf, par := (eccCoded s).par, cw := (eccCoded s).cw
    cwlen := BitVec.ofNat 12 s.vspec.total, phase := .coded } := by
  obtain ⟨n, hn⟩ := Nat.exists_eq_succ_of_ne_zero (Nat.pos_iff_ne_zero.mp hx.nb_pos)
  obtain ⟨_, _, _, _, _, _, ht⟩ := blocksCoded_dividerOnly s n
  have hlast : blocksCoded s s.vspec.nb = { s with
      rsK := BitVec.ofNat 8 (s.vspec.blkLen n), rsR := BitVec.ofNat 5 s.vspec.r
      rsFill := BitVec.ofNat 8 (s.vspec.blkLen n), rsHead := BitVec.ofNat 8 (s.vspec.blkLen n)
      rsbuf := (blocksCoded s s.vspec.nb).rsbuf, par := (blocksCoded s s.vspec.nb).par } := by
    rw [hn, blocksCoded, rsDivided_frame, length_blockData, ht]
    rfl
  rw [eccCoded, hlast, hn, Nat.succ_sub_one]

/-- Settles O41: block by block the divider's commands on the block's data; the interleaved sequence is a
concatenation of columns, in which a codeword stands after all columns before its own. -/
theorem eccRun : Obligations.EccRun := by
  unfold Obligations.EccRun
  intro s hp
  refine ⟨fun hlen => raises_of_phase hp rfl ?_, fun hwf hlen => ?_⟩
  · show eccRunBody s = _
    rw [eccRunBody, require_false hlen]; rfl
  have hx := vspecFacts_of_wf hwf
  have hne : s.phase ≠ .error := by rw [hp]; decide
  have hlast : s.vspec.nb - 1 < s.vspec.nb := Nat.sub_lt hx.nb_pos Nat.one_pos
  have hfits := fitsDivider_blockData hx hlast
  have hframe := eccCoded_frame hx
  have hpar : ∀ b j, (eccCoded s).parAt b j = (blocksCoded s s.vspec.nb).parAt b j := fun _ _ => rfl
  refine ⟨eccCoded s, exec_of_phase_ok hp rfl (eccRunBody_eq hx hlen), ?_, ?_, ?_, ?_, ?_, ?_, ?_, ?_, ?_, ?_⟩
  · rw [hframe]
  · have := hx.total_le
    rw [hframe, BitVec.toNat_ofNat, Nat.mod_eq_of_lt (by omega)]
  · have := hx.blkLen_add_le hlast
    rw [hframe, BitVec.toNat_ofNat, Nat.mod_eq_of_lt (by omega)]
  · rw [hframe]; exact toNat_ofNat_of_mem_validR hx.count
  · intro b hb
    have hk := hx.blkLen_add_le hb
    refine ⟨_, (fitsDivider_blockData hx hb).execAll hne ?_ ?_, fun j hj => ?_⟩
    · rw [length_blockData, BitVec.toNat_ofNat, Nat.mod_eq_of_lt (by omega)]
    · rw [BitVec.toNat_ofNat, Nat.mod_eq_of_lt (by omega)]
    · rw [hpar, parAt_blocksCoded, if_pos ⟨hb, hj⟩]
  · intro b j hout
    rw [hpar, parAt_blocksCoded, if_neg hout]
  · exact fun b hb col hcol => cwAt_eccCoded_dataPosition hb hcol
  · exact fun b hb col hcol => cwAt_eccCoded_parityPosition hb hcol
  · exact fun n hn => cwAt_eccCoded_of_total_le hx hn
  · intro i hi
    have hk := length_blockData s (s.vspec.nb - 1)
    rw [rsAt_eccCoded hx i]
    by_cases hin : s.vspec.blkLen (s.vspec.nb - 1) ≤ i ∧ i < s.vspec.blkLen (s.vspec.nb - 1) + s.vspec.r
    · rw [if_pos hin, hpar, parAt_blocksCoded, if_pos ⟨hlast, by omega⟩, Nat.add_sub_cancel' hin.1]
    · rw [if_neg hin]
      rcases Nat.lt_or_ge i (s.vspec.blkLen (s.vspec.nb - 1)) with h | h
      · exact hfits.rsAt_of_lt s (by omega)
      · exact hfits.rsAt_of_ge s (by omega) hi

end Sys2Proof.Machine
end

section
/-! SUPPORT. Padding a stream that is not at a byte boundary, or is too long (R210). -/
namespace Sys2Proof.Machine

theorem capbits_mod (s : State) : s.capbits % 8 = 0 := Nat.mul_mod_right ..

/-- Off the byte boundary the loop ends with fewer than eight bits of room, where a codeword does not fit. -/
theorem padLoop_of_unaligned {fuel i : Nat} {s : State} (hcap : s.capbits ≤ 23648) (hmod : s.bitlen.toNat % 8 ≠ 0)
    (hlt : s.bitlen.toNat < s.capbits) (hfuel : s.capbits < s.bitlen.toNat + 8 * fuel) :
    padLoop fuel i s = .error .capacityExceeded := by
  induction fuel generalizing i s with
  | zero => omega
  | succ fuel ih =>
    have hwhole := capbits_mod s
    have hbits := length_bitsMSB (padCodeword i) 8
    rw [padLoop, if_pos hlt, ← padCodeword, appendField_eq]
    by_cases hfits : s.bitlen.toNat + 8 ≤ s.capbits
    · have hnext : (pushBits (bitsMSB (padCodeword i) 8) s).bitlen.toNat = s.bitlen.toNat + 8 := by
        rw [toNat_bitlen_pushBits (by omega), hbits]
      rw [appendBits_of_fits (by omega), ok_bind]
      refine ih (s := pushBits _ s) hcap ?_ ?_ ?_ <;> rw [hnext]
      · omega
      · show _ < s.capbits; omega
      · show s.capbits < _; omega
    · rw [appendBits_of_full (by omega), error_bind]

theorem padLoop_of_full {fuel i : Nat} {s : State} (hfull : s.capbits ≤ s.bitlen.toNat) : padLoop fuel i s = .ok s := by
  cases fuel with
  | zero => rfl
  | succ fuel => exact if_neg (Nat.not_lt.mpr hfull)

theorem padBits_zero (n : Nat) :
    padBits 0 n = (List.range n).flatMap fun i => bitsMSB (if i % 2 = 0 then 0xEC else 0x11) 8 := by
  rw [padBits, ← List.range_eq_range']
  rfl

/-- Settles O28: the loop pushes the pad codewords that fit; above the capacity it pushes none and the check after it
fails, off the byte boundary the last codeword does not fit. -/
theorem bsPad : Obligations.BsPad := by
  unfold Obligations.BsPad
  intro s hs hcap
  have hwhole := capbits_mod s
  refine ⟨fun hmod hle => ?_, fun hlt => raises_of_phase hs rfl ?_, fun hmod hlt => raises_of_phase hs rfl ?_⟩
  · have hlen : s.bitlen.toNat + 8 * ((s.capbits - s.bitlen.toNat) / 8) = s.capbits := by omega
    have hfits : s.bitlen.toNat + (padBits 0 ((s.capbits - s.bitlen.toNat) / 8)).length < 2 ^ 15 := by
      rw [length_padBits]; omega
    have happ := appends_pushBits hfits
    refine ⟨_, exec_of_phase_ok hs rfl (bsPadBody_eq hcap hlen), rfl, ?_, ?_⟩
    · rw [happ.1, length_padBits, hlen]
    · exact padBits_zero _ ▸ happ
  · show bsPadBody s = _
    rw [bsPadBody, padLoop_of_full hlt.le, ok_bind, require_false hlt.ne', error_bind]
  · show bsPadBody s = _
    rw [bsPadBody, padLoop_of_unaligned hcap hmod hlt (by omega), error_bind]

end Sys2Proof.Machine
end

section
/-! SUPPORT. A whole payload (R216): groups packed one after the other, each a payload command whose characters all
have a value. -/
namespace Sys2Proof.Machine

/-- A payload command of mode `m` whose characters have a value: it appends `n` bits and counts `chars` characters. -/
def IsGroup (i : Instr) (m : Mode) (n chars : Nat) (short : Bool) : Prop :=
  legalIn i .payload = true ∧
    ∃ charErr v, ∀ s, bodyOf i s = packPayload m charErr (some v) n chars short s

/-- `t` comes from `s` by packing `n` bits for `chars` characters. -/
structure Packed (n chars : Nat) (s t : State) : Prop where
  phase : t.phase = .payload
  mode : t.mode = s.mode
  capbits : t.capbits = s.capbits
  bitlen : t.bitlen.toNat = s.bitlen.toNat + n
  decl : t.decl = s.decl
  counted : t.chars = s.chars + BitVec.ofNat 16 chars

theorem Packed.trans {n n' k k' : Nat} {s t u : State} (h : Packed n k s t) (h' : Packed n' k' t u) :
    Packed (n + n') (k + k') s u where
  phase := h'.phase
  mode := h'.mode.trans h.mode
  capbits := h'.capbits.trans h.capbits
  bitlen := by rw [h'.bitlen, h.bitlen, Nat.add_assoc]
  decl := h'.decl.trans h.decl
  counted := by rw [h'.counted, h.counted, BitVec.ofNat_add, BitVec.add_assoc]

/-- One group where it fits; `TAIL` afterwards says whether it was a short one (R195). -/
theorem exec_group {i : Instr} {m : Mode} {n chars : Nat} {short : Bool} (hi : IsGroup i m n chars short) {s : State}
    (hs : s.phase = .payload) (hm : s.mode = m) (ht : s.tail = false) (hcap : s.capbits ≤ 23648)
    (hfit : s.bitlen.toNat + n ≤ s.capbits) : ∃ t, exec i s = .next t ∧ Packed n chars s t ∧ t.tail = short := by
  obtain ⟨hl, charErr, v, hb⟩ := hi
  obtain ⟨-, -, -, hv⟩ := payloadRule_of_body hs hcap hl (hb s)
  obtain ⟨t, hexec, hframe, hlen, -⟩ := (hv v hm ht rfl).2 hfit
  rw [length_bitsMSB] at hlen
  exact ⟨t, hexec, ⟨hframe ▸ hs, by rw [hframe], by rw [hframe]; rfl, hlen, by rw [hframe], by rw [hframe]⟩, by rw [hframe]⟩

/-- These commands pack `n` bits for `chars` characters wherever they fit in a stream of mode `m`. -/
def Packs (m : Mode) (groups : List Instr) (n chars : Nat) : Prop :=
  ∀ s : State, s.phase = .payload → s.mode = m → s.tail = false → s.capbits ≤ 23648 →
    s.bitlen.toNat + n ≤ s.capbits → ∃ t, execAll groups s = .next t ∧ Packed n chars s t

theorem Packs.nil (m : Mode) : Packs m [] 0 0 := fun s hs _ _ _ _ =>
  ⟨s, rfl, hs, rfl, rfl, rfl, rfl, (BitVec.add_zero _).symm⟩

/-- A full group before the rest. -/
theorem Packs.cons {m : Mode} {i : Instr} {groups : List Instr} {n n' chars chars' : Nat}
    (hi : IsGroup i m n chars false) (h : Packs m groups n' chars') : Packs m (i :: groups) (n + n') (chars + chars') := by
  intro s hs hm ht hcap hfit
  obtain ⟨t, hexec, hpacked, htail⟩ := exec_group hi hs hm ht hcap (by omega)
  obtain ⟨u, hrest, hpacked'⟩ := h t hpacked.phase (hpacked.mode.trans hm) htail (hpacked.capbits ▸ hcap)
    (by rw [hpacked.bitlen, hpacked.capbits]; omega)
  exact ⟨u, by rw [execAll, hexec]; exact hrest, hpacked.trans hpacked'⟩

/-- A last group, which may be short. -/
theorem Packs.last {m : Mode} {i : Instr} {n chars : Nat} {short : Bool} (hi : IsGroup i m n chars short) :
    Packs m [i] n chars := by
  intro s hs hm ht hcap hfit
  obtain ⟨t, hexec, hpacked, -⟩ := exec_group hi hs hm ht hcap hfit
  exact ⟨t, by rw [execAll, hexec]; rfl, hpacked⟩

/-- Full groups of one size. -/
theorem Packs.all {m : Mode} {n chars : Nat} {groups : List Instr} (h : ∀ i ∈ groups, IsGroup i m n chars false) :
    Packs m groups (n * groups.length) (chars * groups.length) := by
  induction groups with
  | nil => exact .nil m
  | cons i groups ih =>
    rw [List.length_cons, Nat.mul_succ, Nat.mul_succ, Nat.add_comm, Nat.add_comm _ chars]
    exact .cons (h i List.mem_cons_self) (ih fun j hj => h j (List.mem_cons_of_mem _ hj))

/-! The groups of each mode. -/

/-- A byte that is a digit (R196). -/
def IsDigit (c : Byte) : Prop := 0x30 ≤ c.toNat ∧ c.toNat ≤ 0x39

theorem isGroup_bsNum3 {c2 c1 c0 : Byte} (h2 : IsDigit c2) (h1 : IsDigit c1) (h0 : IsDigit c0) :
    IsGroup (.bsNum3 c2 c1 c0) .numeric 10 3 false :=
  ⟨rfl, _, _, fun s => (bsNum3Body_eq c2 c1 c0 s).trans (by rw [threeDigits_of_digits h2 h1 h0])⟩

theorem isGroup_bsNum2 {c1 c0 : Byte} (h1 : IsDigit c1) (h0 : IsDigit c0) :
    IsGroup (.bsNum2 c1 c0) .numeric 7 2 true :=
  ⟨rfl, _, _, fun s => (bsNum2Body_eq c1 c0 s).trans (by rw [twoDigits_of_digits h1 h0])⟩

theorem isGroup_bsNum1 {c0 : Byte} (h0 : IsDigit c0) : IsGroup (.bsNum1 c0) .numeric 4 1 true :=
  ⟨rfl, _, _, fun s => (bsNum1Body_eq c0 s).trans (by rw [decimalDigit_of_digit h0])⟩

theorem isGroup_bsAn2 {a b : Byte} (ha : anval a ≠ none) (hb : anval b ≠ none) :
    IsGroup (.bsAn2 a b) .alphanumeric 11 2 false := by
  obtain ⟨x, hx⟩ := Option.ne_none_iff_exists'.mp ha
  obtain ⟨y, hy⟩ := Option.ne_none_iff_exists'.mp hb
  exact ⟨rfl, _, _, fun s => (bsAn2Body_eq a b s).trans (by rw [hx, hy]; rfl)⟩

theorem isGroup_bsAn1 {a : Byte} (ha : anval a ≠ none) : IsGroup (.bsAn1 a) .alphanumeric 6 1 true := by
  obtain ⟨x, hx⟩ := Option.ne_none_iff_exists'.mp ha
  exact ⟨rfl, _, _, fun s => (bsAn1Body_eq a s).trans (by rw [hx])⟩

theorem isGroup_bsByte (b : Byte) : IsGroup (.bsByte b) .byte 8 1 false := ⟨rfl, _, _, bsByteBody_eq b⟩

theorem isGroup_bsKanji {b1 b0 : Byte} {v : Nat} (h : kanjiValue b1 b0 = .ok v) :
    IsGroup (.bsKanji b1 b0) .kanji 13 1 false := ⟨rfl, _, _, fun s => bsKanjiBody_eq s (value := some v) h⟩

/-- The bits of a numeric payload of `n` digits (R216). -/
def numericBits (n : Nat) : Nat := 10 * (n / 3) + (if n % 3 = 0 then 0 else if n % 3 = 1 then 4 else 7)

theorem packs_numericGroups (chars : List Byte) (h : ∀ c ∈ chars, IsDigit c) :
    Packs .numeric (numericGroups chars) (numericBits chars.length) chars.length := by
  fun_induction numericGroups chars with
  | case1 c2 c1 c0 rest ih =>
    have hbits : numericBits (rest.length + 1 + 1 + 1) = 10 + numericBits rest.length := by
      rw [numericBits, show rest.length + 1 + 1 + 1 = rest.length + 3 by rfl, Nat.add_mod_right,
        Nat.add_div_right _ (by decide), numericBits]
      omega
    simp only [List.mem_cons, forall_eq_or_imp] at h
    rw [List.length_cons, List.length_cons, List.length_cons, hbits, Nat.add_comm rest.length, Nat.add_comm _ 1,
      Nat.add_comm _ 1, ← Nat.add_assoc, ← Nat.add_assoc]
    exact .cons (isGroup_bsNum3 h.1 h.2.1 h.2.2.1) (ih h.2.2.2)
  | case2 c1 c0 => exact (by decide : numericBits 2 = 7) ▸ Packs.last (isGroup_bsNum2 (h c1 (by simp)) (h c0 (by simp)))
  | case3 c0 => exact (by decide : numericBits 1 = 4) ▸ Packs.last (isGroup_bsNum1 (h c0 (by simp)))
  | case4 => exact .nil _

/-- The bits of an alphanumeric payload of `n` characters (R216). -/
def alphanumericBits (n : Nat) : Nat := 11 * (n / 2) + 6 * (n % 2)

theorem packs_alphanumericGroups (chars : List Byte) (h : ∀ c ∈ chars, anval c ≠ none) :
    Packs .alphanumeric (alphanumericGroups chars) (alphanumericBits chars.length) chars.length := by
  fun_induction alphanumericGroups chars with
  | case1 a b rest ih =>
    have hbits : alphanumericBits (rest.length + 1 + 1) = 11 + alphanumericBits rest.length := by
      unfold alphanumericBits
      omega
    simp only [List.mem_cons, forall_eq_or_imp] at h
    rw [List.length_cons, List.length_cons, hbits, Nat.add_comm rest.length, Nat.add_comm _ 1, ← Nat.add_assoc]
    exact .cons (isGroup_bsAn2 h.1 h.2.1) (ih h.2.2)
  | case2 a => exact (by decide : alphanumericBits 1 = 6) ▸ Packs.last (isGroup_bsAn1 (h a (by simp)))
  | case3 => exact .nil _

theorem mem_kanjiGroups {chars : List Byte} {groups : List Instr} (h : kanjiGroups chars = some groups) :
    ∀ i ∈ groups, ∃ b1 b0, i = .bsKanji b1 b0 := by
  fun_induction kanjiGroups chars generalizing groups with
  | case1 a b rest ih =>
    obtain ⟨tail, htail, hgroups⟩ := Option.bind_eq_some_iff.mp h
    obtain rfl := Option.some.inj hgroups
    rintro i (_ | ⟨_, hi⟩)
    · exact ⟨a, b, rfl⟩
    · exact ih htail i hi
  | case2 => cases h
  | case3 => cases h; exact fun i hi => nomatch hi

/-- Settles O31: the header is one append, the payload packs group by group; each mode's groups take the bits of the
rule. -/
theorem payloadLength : Obligations.PayloadLength := by
  unfold Obligations.PayloadLength
  intro s n chars groups payloadBits hs h0 hcap hn hw hnumeric halnum hbyte hkanji total hfit
  have hpacks : Packs s.mode groups payloadBits n.toNat := by
    cases hmode : s.mode with
    | numeric =>
      obtain ⟨hlen, hdigits, rfl, rfl⟩ := hnumeric hmode
      exact hlen ▸ packs_numericGroups chars hdigits
    | alphanumeric =>
      obtain ⟨hlen, hvalues, rfl, rfl⟩ := halnum hmode
      exact hlen ▸ packs_alphanumericGroups chars hvalues
    | byte =>
      obtain ⟨hlen, rfl, rfl⟩ := hbyte hmode
      have hall := Packs.all (m := .byte) (n := 8) (chars := 1) (groups := chars.map .bsByte) fun i hi => by
        obtain ⟨b, -, rfl⟩ := List.mem_map.mp hi
        exact isGroup_bsByte b
      rwa [List.length_map, hlen, Nat.one_mul] at hall
    | kanji =>
      obtain ⟨hgroups, hlen, hvalues, rfl⟩ := hkanji hmode
      have hall := Packs.all (m := .kanji) (n := 13) (chars := 1) (groups := groups) fun i hi => by
        obtain ⟨b1, b0, rfl⟩ := mem_kanjiGroups hgroups i hi
        exact isGroup_bsKanji (hvalues b1 b0 hi).choose_spec
      rwa [hlen, Nat.one_mul] at hall
  have hheader : (headerBits n (countWidth s.mode (versionBand s.ver.toNat)) s).length + payloadBits = total := by
    rw [headerBits, List.length_append, List.length_append, length_bitsMSB, length_bitsMSB]
    unfold eciBits total
    split
    · rw [List.length_append, length_bitsMSB, length_bitsMSB]
    · rfl
  have hempty : s.bitlen.toNat = 0 := by rw [h0]; rfl
  generalize hbits : headerBits n (countWidth s.mode (versionBand s.ver.toNat)) s = bits at hheader
  have hpush := toNat_bitlen_pushBits (bs := bits) (s := s) (by omega)
  have hhead := exec_of_phase_ok (i := .bsHead n) hs rfl
    ((bsHeadBody_eq_append hcap hn hw).trans (by rw [hbits, appendBits_of_fits (by omega), ok_bind]))
  obtain ⟨t, hexec, hpacked⟩ := hpacks { pushBits bits s with decl := n, chars := 0, tail := false, phase := .payload }
    rfl rfl rfl hcap (by show (pushBits bits s).bitlen.toNat + payloadBits ≤ s.capbits; omega)
  refine ⟨t, by rw [execAll, hhead]; exact hexec, hpacked.phase, ?_, hpacked.decl, ?_⟩
  · rw [hpacked.bitlen]
    show (pushBits bits s).bitlen.toNat + payloadBits = total
    omega
  · rw [hpacked.counted, BitVec.ofNat_toNat, BitVec.setWidth_eq]
    exact BitVec.zero_add n

end Sys2Proof.Machine
end

section
/-! SUPPORT. The placer's traversal (R301): one move inside a pair of columns, one from a pair to the next, and the
zig-zag as pair and place in the pair. -/
namespace Sys2Proof.Machine

theorem plNexts_succ (n : Nat) (s : State) : plNexts (n + 1) s = plNext (plNexts n s) := by
  induction n generalizing s with
  | zero => rfl
  | succ n ih => rw [plNexts, ih, plNexts]

theorem plNexts_add (m n : Nat) (s : State) : plNexts (m + n) s = plNexts n (plNexts m s) := by
  induction n with
  | zero => rfl
  | succ n ih => rw [← Nat.add_assoc, plNexts_succ, ih, plNexts_succ]

theorem size_eq {s : State} (h : 1 ≤ s.ver.toNat) : s.size = 17 + 4 * s.ver.toNat := if_neg (by omega)

/-! The moves from a position given by numbers. -/

/-- The placer at a row, a pair's right column, a direction and a side, not done. -/
def atPosition (s : State) (row pair : Nat) (dir : Dir) (side : Side) : State :=
  { s with
    plRow := BitVec.ofNat 8 row, plColpair := BitVec.ofNat 8 pair, plDir := dir, plSide := side, plDone := false }

section
variable {s : State} {row pair : Nat}

theorem plNext_atPosition_right (dir : Dir) :
    plNext (atPosition s row pair dir .right) = atPosition s row pair dir .left := plNext_of_right rfl rfl

theorem toNat_plRow_atPosition (hrow : row < 256) (dir : Dir) (side : Side) :
    (atPosition s row pair dir side).plRow.toNat = row := by
  rw [atPosition, BitVec.toNat_ofNat, Nat.mod_eq_of_lt hrow]

theorem toNat_plColpair_atPosition (hpair : pair < 256) (dir : Dir) (side : Side) :
    (atPosition s row pair dir side).plColpair.toNat = pair := by
  rw [atPosition, BitVec.toNat_ofNat, Nat.mod_eq_of_lt hpair]

theorem plNext_atPosition_up (h0 : 0 < row) (hrow : row < 256) :
    plNext (atPosition s row pair .up .left) = atPosition s (row - 1) pair .up .right := by
  have hn := toNat_plRow_atPosition (s := s) (pair := pair) hrow .up .left
  have hup : (atPosition s row pair .up .left).plRow - 1 = BitVec.ofNat 8 (row - 1) :=
    BitVec.ofNat_sub_ofNat_of_le row 1 (by decide) h0
  rw [plNext_of_up rfl rfl rfl (by rwa [hn]), hup]
  rfl

theorem plNext_atPosition_down (hlt : row + 1 < s.size) (hrow : row < 256) :
    plNext (atPosition s row pair .down .left) = atPosition s (row + 1) pair .down .right := by
  have hn := toNat_plRow_atPosition (s := s) (pair := pair) hrow .down .left
  have hdown : (atPosition s row pair .down .left).plRow + 1 = BitVec.ofNat 8 (row + 1) := (BitVec.ofNat_add row 1).symm
  rw [plNext_of_down rfl rfl rfl (by rwa [hn]), hdown]
  rfl

/-- The end of a pair, and not of the last one. -/
theorem plNext_atPosition_end {dir : Dir} (hpair : pair < 256) (h1 : pair ≠ 1)
    (hend : (atPosition s row pair dir .left).AtPairEnd) :
    plNext (atPosition s row pair dir .left) = atPosition s row (nextPair pair) dir.flip .right := by
  have hn := toNat_plColpair_atPosition (s := s) (row := row) hpair dir .left
  have hne : (atPosition s row pair dir .left).plColpair ≠ 1 := fun h => h1 (by rw [← hn, h]; rfl)
  rw [plNext_of_atPairEnd rfl hend, if_neg hne, hn]
  rfl

end

/-! The moves from the `r`-th module of pair `p`. -/

/-- The row of the `r`-th module of pair `p`: the first pair goes up (R301). -/
def rowIn (size p r : Nat) : Nat := if p % 2 = 0 then size - 1 - r / 2 else r / 2

def dirOf (p : Nat) : Dir := if p % 2 = 0 then .up else .down

/-- Right, left, right, ... (R301). -/
def sideOf (r : Nat) : Side := if r % 2 = 0 then .right else .left

/-- The placer at the `r`-th module of pair `p` (R301). -/
def inPair (s : State) (p r : Nat) : State :=
  atPosition s (rowIn s.size p r) (pairColumn s.size p) (dirOf p) (sideOf r)

section
variable {s : State} (h1 : 1 ≤ s.ver.toNat) (h40 : s.ver.toNat ≤ 40) {p r : Nat}

theorem plNext_inPair_right (s : State) (hr : r % 2 = 0) : plNext (inPair s p r) = inPair s p (r + 1) := by
  have hrow : rowIn s.size p (r + 1) = rowIn s.size p r := by
    rw [rowIn, rowIn, show (r + 1) / 2 = r / 2 by omega]
  rw [inPair, inPair, hrow, sideOf, sideOf, if_pos hr, if_neg (by omega), plNext_atPosition_right]

include h1 h40

theorem plNext_inPair_left (hr : r % 2 = 1) (hlt : r + 1 < 2 * s.size) :
    plNext (inPair s p r) = inPair s p (r + 1) := by
  have hsize := size_eq h1
  rw [inPair, inPair, sideOf, sideOf, if_neg (by omega), if_pos (by omega)]
  by_cases hp : p % 2 = 0
  · rw [dirOf, if_pos hp, rowIn, rowIn, if_pos hp, if_pos hp, plNext_atPosition_up (by omega) (by omega)]
    congr 1
    omega
  · rw [dirOf, if_neg hp, rowIn, rowIn, if_neg hp, if_neg hp, plNext_atPosition_down (by omega) (by omega)]
    congr 1
    omega

theorem pairColumn_lt : pairColumn s.size p < 256 := by
  have hsize := size_eq h1
  unfold pairColumn
  split <;> omega

omit h40 in
theorem nextPair_pairColumn (hp : 2 * (p + 1) + 1 < s.size) :
    nextPair (pairColumn s.size p) = pairColumn s.size (p + 1) := by
  have hsize := size_eq h1
  unfold nextPair pairColumn
  split <;> split <;> split <;> omega

omit h40 in
/-- Column 1 is the right column of the last pair only. -/
theorem pairColumn_eq_one (hp : 2 * p + 1 < s.size) : pairColumn s.size p = 1 ↔ 2 * (p + 1) + 1 = s.size := by
  have hsize := size_eq h1
  unfold pairColumn
  split <;> omega

theorem atPairEnd_inPair (hr : r + 1 = 2 * s.size) : (inPair s p r).AtPairEnd := by
  have hsize := size_eq h1
  refine ⟨if_neg (by omega), ?_⟩
  by_cases hp : p % 2 = 0
  · refine .inl ⟨if_pos hp, ?_⟩
    show BitVec.ofNat 8 (rowIn s.size p r) = 0
    rw [rowIn, if_pos hp, show s.size - 1 - r / 2 = 0 by omega]
    rfl
  · refine .inr ⟨if_neg hp, ?_⟩
    have hrow : (inPair s p r).plRow.toNat = rowIn s.size p r :=
      toNat_plRow_atPosition (by rw [rowIn, if_neg hp]; omega) _ _
    rw [hrow, rowIn, if_neg hp]
    show s.size - 1 ≤ _
    omega

theorem plNext_inPair_end (hr : r + 1 = 2 * s.size) (hp : 2 * (p + 1) + 1 < s.size) :
    plNext (inPair s p r) = inPair s (p + 1) 0 := by
  have hend := atPairEnd_inPair h1 h40 (p := p) hr
  have hsize := size_eq h1
  have hne : pairColumn s.size p ≠ 1 := fun h => by
    have := (pairColumn_eq_one h1 (by omega)).mp h
    omega
  have hrow : rowIn s.size p r = rowIn s.size (p + 1) 0 := by
    unfold rowIn
    split <;> split <;> omega
  have hdir : (dirOf p).flip = dirOf (p + 1) := by
    unfold dirOf
    by_cases h : p % 2 = 0
    · rw [if_pos h, if_neg (by omega)]; rfl
    · rw [if_neg h, if_pos (by omega)]; rfl
  rw [inPair, sideOf, if_neg (by omega)] at hend ⊢
  rw [plNext_atPosition_end (pairColumn_lt h1 h40) hne hend, nextPair_pairColumn h1 hp, hrow, hdir]
  rfl

theorem plNext_inPair_last (hr : r + 1 = 2 * s.size) (hp : 2 * (p + 1) + 1 = s.size) :
    (plNext (inPair s p r)).plDone = true := by
  have hend := atPairEnd_inPair h1 h40 (p := p) hr
  have hcol : (inPair s p r).plColpair = 1 := by
    show BitVec.ofNat 8 (pairColumn s.size p) = 1
    rw [(pairColumn_eq_one h1 (by omega)).mpr hp]
    rfl
  rw [plNext_of_atPairEnd rfl hend, if_pos hcol]

end

/-! The traversal from its start. -/

/-- The placer at the start of the traversal (R301). -/
def plStarted (s : State) : State :=
  { s with
    plRow := BitVec.ofNat 8 (s.size - 1), plColpair := BitVec.ofNat 8 (s.size - 1), plDir := .up, plSide := .right,
    plDone := false }

/-- The position after `i` moves, as pair and place in the pair. -/
def zigzagState (s : State) (i : Nat) : State := inPair s (i / (2 * s.size)) (i % (2 * s.size))

section
variable {s : State} (h1 : 1 ≤ s.ver.toNat) (h40 : s.ver.toNat ≤ 40)
include h1

/-- Every index of the traversal is in one of its pairs. -/
theorem pair_lt {i : Nat} (hi : i < s.size * (s.size - 1)) : 2 * (i / (2 * s.size)) + 1 < s.size := by
  have hsize := size_eq h1
  have hpairs : s.size * (s.size - 1) = 2 * s.size * (8 + 2 * s.ver.toNat) := by
    rw [show s.size - 1 = 2 * (8 + 2 * s.ver.toNat) by omega]
    ring
  have hlt : i / (2 * s.size) < 8 + 2 * s.ver.toNat := Nat.div_lt_of_lt_mul (hpairs ▸ hi)
  omega

/-- The last index is the last module of the last pair. -/
theorem last_div_mod {i : Nat} (hi : i + 1 = s.size * (s.size - 1)) :
    2 * (i / (2 * s.size) + 1) + 1 = s.size ∧ i % (2 * s.size) + 1 = 2 * s.size := by
  have hsize := size_eq h1
  have hpairs : s.size * (s.size - 1) = 2 * s.size * (7 + 2 * s.ver.toNat) + 2 * s.size := by
    rw [show s.size - 1 = 2 * (7 + 2 * s.ver.toNat) + 2 by omega]
    ring
  have hlast : i / (2 * s.size) = 7 + 2 * s.ver.toNat ∧ i % (2 * s.size) = 2 * s.size - 1 :=
    (Nat.div_mod_unique (by omega)).mpr ⟨by omega, by omega⟩
  rw [hlast.1, hlast.2]
  omega

include h40

theorem zigzagState_zero : zigzagState s 0 = plStarted s := by
  have hsize := size_eq h1
  have hcol : pairColumn s.size 0 = s.size - 1 := by
    unfold pairColumn
    split <;> omega
  rw [zigzagState, Nat.zero_div, Nat.zero_mod, inPair, hcol]
  rfl

/-- Before the last module of the traversal a move goes on to the next one. -/
theorem plNext_zigzagState {i : Nat} (hi : i + 1 < s.size * (s.size - 1)) :
    plNext (zigzagState s i) = zigzagState s (i + 1) := by
  have hsize := size_eq h1
  have hdiv := Nat.div_add_mod i (2 * s.size)
  have hmod := Nat.mod_lt i (show 0 < 2 * s.size by omega)
  unfold zigzagState
  by_cases hlast : i % (2 * s.size) + 1 = 2 * s.size
  · have hnext : (i + 1) / (2 * s.size) = i / (2 * s.size) + 1 ∧ (i + 1) % (2 * s.size) = 0 := by
      refine (Nat.div_mod_unique (by omega)).mpr ⟨?_, by omega⟩
      rw [Nat.mul_succ, Nat.zero_add]
      omega
    rw [hnext.1, hnext.2]
    exact plNext_inPair_end h1 h40 hlast (hnext.1 ▸ pair_lt h1 hi)
  · have hnext : (i + 1) / (2 * s.size) = i / (2 * s.size) ∧ (i + 1) % (2 * s.size) = i % (2 * s.size) + 1 :=
      (Nat.div_mod_unique (by omega)).mpr ⟨by omega, by omega⟩
    rw [hnext.1, hnext.2]
    rcases Nat.mod_two_eq_zero_or_one (i % (2 * s.size)) with h | h
    · exact plNext_inPair_right s h
    · exact plNext_inPair_left h1 h40 h (by omega)

/-- The traversal is the zig-zag (R301). -/
theorem plNexts_plStarted {i : Nat} (hi : i < s.size * (s.size - 1)) : plNexts i (plStarted s) = zigzagState s i := by
  induction i with
  | zero => exact (zigzagState_zero h1 h40).symm
  | succ i ih => rw [plNexts_succ, ih (by omega), plNext_zigzagState h1 h40 hi]

/-- After its last module the traversal is done (R301). -/
theorem plDone_plNexts_plStarted : (plNexts (s.size * (s.size - 1)) (plStarted s)).plDone = true := by
  have hsize := size_eq h1
  obtain ⟨i, hi⟩ : ∃ i, i + 1 = s.size * (s.size - 1) :=
    ⟨_, Nat.sub_add_cancel (Nat.mul_pos (by omega) (by omega))⟩
  obtain ⟨hp, hr⟩ := last_div_mod h1 hi
  rw [← hi, plNexts_succ, plNexts_plStarted h1 h40 (by omega)]
  exact plNext_inPair_last h1 h40 hr hp

/-- The position of the `i`-th state is the `i`-th module of the zig-zag. -/
theorem position_zigzagState (i : Nat) :
    ((zigzagState s i).plRow.toNat, (zigzagState s i).plCol) = zigzag s.size i := by
  have hsize := size_eq h1
  have hmod := Nat.mod_lt i (show 0 < 2 * s.size by omega)
  have hparity : i % (2 * s.size) % 2 = i % 2 := Nat.mod_mod_of_dvd i (Nat.dvd_mul_right ..)
  have hrow : rowIn s.size (i / (2 * s.size)) (i % (2 * s.size)) < 256 := by
    unfold rowIn
    split <;> omega
  have hside : (sideOf (i % (2 * s.size))).code = i % 2 := by
    rw [sideOf, ← hparity]
    rcases Nat.mod_two_eq_zero_or_one (i % (2 * s.size)) with h | h <;> rw [h] <;> rfl
  have hcol : (zigzagState s i).plCol = pairColumn s.size (i / (2 * s.size)) - i % 2 := by
    rw [State.plCol, zigzagState, inPair, toNat_plColpair_atPosition (pairColumn_lt h1 h40), ← hside]
    rfl
  rw [hcol, zigzagState, inPair, toNat_plRow_atPosition hrow]
  rfl

end

/-! The zig-zag visits every module outside column 6 once. -/

/-- The pair of a column. -/
def pairOf (size c : Nat) : Nat := if c < 6 then (size - 2 - c) / 2 else (size - 1 - c) / 2

/-- The place of a module in its pair. -/
def placeOf (size r c : Nat) : Nat :=
  2 * (if pairOf size c % 2 = 0 then size - 1 - r else r) + (pairColumn size (pairOf size c) - c)

/-- The index of a module in the traversal. -/
def zigzagIndex (size r c : Nat) : Nat := 2 * size * pairOf size c + placeOf size r c

section
variable {s : State} (h1 : 1 ≤ s.ver.toNat)
include h1

theorem pairOf_pairColumn {p b : Nat} (hp : 2 * p + 1 < s.size) (hb : b < 2) :
    pairOf s.size (pairColumn s.size p - b) = p := by
  have hsize := size_eq h1
  unfold pairOf pairColumn
  split <;> split <;> omega

theorem pairColumn_sub_ne_six {p b : Nat} (hp : 2 * p + 1 < s.size) (hb : b < 2) :
    pairColumn s.size p - b < s.size ∧ pairColumn s.size p - b ≠ 6 ∧ b ≤ pairColumn s.size p := by
  have hsize := size_eq h1
  unfold pairColumn
  split <;> omega

/-- A module of the zig-zag is in the grid, outside column 6, and tells its index. -/
theorem zigzag_spec {i : Nat} (hi : i < s.size * (s.size - 1)) :
    (zigzag s.size i).1 < s.size ∧ (zigzag s.size i).2 < s.size ∧ (zigzag s.size i).2 ≠ 6 ∧
      zigzagIndex s.size (zigzag s.size i).1 (zigzag s.size i).2 = i := by
  have hsize := size_eq h1
  have hp := pair_lt h1 hi
  have hdiv := Nat.div_add_mod i (2 * s.size)
  have hmod := Nat.mod_lt i (show 0 < 2 * s.size by omega)
  have hparity : i % (2 * s.size) % 2 = i % 2 := Nat.mod_mod_of_dvd i (Nat.dvd_mul_right ..)
  have hb : i % 2 < 2 := Nat.mod_lt _ (by decide)
  obtain ⟨hcol, hne, hle⟩ := pairColumn_sub_ne_six h1 hp hb
  have hpair := pairOf_pairColumn h1 hp hb
  have hrow : (zigzag s.size i).1 = if i / (2 * s.size) % 2 = 0 then s.size - 1 - i % (2 * s.size) / 2
      else i % (2 * s.size) / 2 := rfl
  refine ⟨?_, hcol, hne, ?_⟩
  · rw [hrow]
    split <;> omega
  · have hflip : (if i / (2 * s.size) % 2 = 0 then s.size - 1 - (zigzag s.size i).1 else (zigzag s.size i).1) =
        i % (2 * s.size) / 2 := by
      rw [hrow]
      split <;> omega
    have hcolumn : (zigzag s.size i).2 = pairColumn s.size (i / (2 * s.size)) - i % 2 := rfl
    rw [zigzagIndex, placeOf, hcolumn, hpair, hflip]
    omega

/-- Every module outside column 6 is in the zig-zag, at its index. -/
theorem zigzag_zigzagIndex {r c : Nat} (hr : r < s.size) (hc : c < s.size) (h6 : c ≠ 6) :
    zigzagIndex s.size r c < s.size * (s.size - 1) ∧ zigzag s.size (zigzagIndex s.size r c) = (r, c) := by
  have hsize := size_eq h1
  have hcol : c ≤ pairColumn s.size (pairOf s.size c) ∧ pairColumn s.size (pairOf s.size c) ≤ c + 1 := by
    unfold pairColumn pairOf
    split <;> split <;> omega
  have hp : pairOf s.size c ≤ 7 + 2 * s.ver.toNat := by
    unfold pairOf
    split <;> omega
  have hplace : placeOf s.size r c < 2 * s.size := by
    unfold placeOf
    split <;> omega
  have hindex : zigzagIndex s.size r c / (2 * s.size) = pairOf s.size c ∧
      zigzagIndex s.size r c % (2 * s.size) = placeOf s.size r c :=
    (Nat.div_mod_unique (by omega)).mpr ⟨Nat.add_comm .., hplace⟩
  have hparity : placeOf s.size r c % 2 = zigzagIndex s.size r c % 2 := by
    rw [← hindex.2]
    exact Nat.mod_mod_of_dvd _ (Nat.dvd_mul_right ..)
  have hside : placeOf s.size r c % 2 = pairColumn s.size (pairOf s.size c) - c := by
    unfold placeOf
    omega
  constructor
  · have hpairs : s.size * (s.size - 1) = 2 * s.size * (7 + 2 * s.ver.toNat) + 2 * s.size := by
      rw [show s.size - 1 = 2 * (7 + 2 * s.ver.toNat) + 2 by omega]
      ring
    have := Nat.mul_le_mul_left (2 * s.size) hp
    rw [zigzagIndex, hpairs]
    omega
  · refine Prod.ext ?_ ?_
    · show (if _ then _ else _) = r
      rw [hindex.1, hindex.2]
      unfold placeOf
      by_cases h : pairOf s.size c % 2 = 0
      · rw [if_pos h, if_pos h]
        omega
      · rw [if_neg h, if_neg h]
        omega
    · show pairColumn s.size (zigzagIndex s.size r c / (2 * s.size)) - zigzagIndex s.size r c % 2 = c
      rw [hindex.1, ← hparity, hside]
      omega

end

/-- Settles O50: by induction on the index the placer is at the zig-zag's module, and a module's pair and place give
its index back. -/
theorem traversal : Obligations.Traversal := by
  unfold Obligations.Traversal
  intro s h1 h40 start
  refine ⟨fun i hi => ?_, plDone_plNexts_plStarted h1 h40, fun i hi => ?_, fun r hr c hc h6 => ?_⟩
  · rw [show start = plStarted s from rfl, plNexts_plStarted h1 h40 hi]
    exact ⟨rfl, position_zigzagState h1 h40 i⟩
  · obtain ⟨hrow, hcol, hne, -⟩ := zigzag_spec h1 hi
    exact ⟨hrow, hcol, hne⟩
  · obtain ⟨hlt, hat⟩ := zigzag_zigzagIndex h1 hr hc h6
    refine ⟨_, hlt, hat, fun j hj hjat => ?_⟩
    obtain ⟨-, -, -, hindex⟩ := zigzag_spec h1 hj
    rw [← hindex, hjat]

end Sys2Proof.Machine
end

section
/-! SUPPORT. `PL_BIT` (R305): the skipping loop stops at the first `Unset` module, the bit is placed there. -/
namespace Sys2Proof.Machine

/-- The loop skips exactly the modules before the first position where it stops (R305). -/
theorem plSkip_of_first {n fuel : Nat} {s : State} (hn : n ≤ fuel)
    (hbefore : ∀ k < n, (plNexts k s).plDone = false ∧ (plNexts k s).plModule ≠ .unset)
    (hstop : ¬((plNexts n s).plDone = false ∧ (plNexts n s).plModule ≠ .unset)) : plSkip fuel s = plNexts n s := by
  induction n generalizing fuel s with
  | zero =>
    cases fuel with
    | zero => rfl
    | succ fuel => exact if_neg hstop
  | succ n ih =>
    obtain ⟨fuel, rfl⟩ : ∃ f, fuel = f + 1 := ⟨fuel - 1, by omega⟩
    refine (if_pos (hbefore 0 (Nat.succ_pos n))).trans ?_
    exact ih (by omega) (fun k hk => hbefore (k + 1) (by omega)) hstop

/-- A move does not look at the grid or at the bits placed so far (R301). -/
theorem plNext_update (s : State) (g : List (List Module)) (b : BitVec 15) :
    plNext { s with grid := g, bitpos := b } = { plNext s with grid := g, bitpos := b } := by
  have hsize : ({ s with grid := g, bitpos := b } : State).size = s.size := rfl
  unfold plNext
  rw [hsize]
  split
  · rfl
  split
  · rfl
  split
  · rfl
  split
  · rfl
  split <;> rfl

theorem plNexts_update (n : Nat) (s : State) (g : List (List Module)) (b : BitVec 15) :
    plNexts n { s with grid := g, bitpos := b } = { plNexts n s with grid := g, bitpos := b } := by
  induction n with
  | zero => rfl
  | succ n ih => rw [plNexts_succ, ih, plNext_update, plNexts_succ]

/-- Where no bit is missing afterwards, placing a bit goes on (R305). -/
theorem plPlace_of_not_last {u : State} (h : u.withBit.bitpos.toNat ≠ u.slen) : plPlace u = .ok (plNext u.withBit) := by
  have hlast : ¬(plNext u.withBit).bitpos.toNat = (plNext u.withBit).slen := by
    rw [plNext_bitpos, plNext_slen]
    exact h
  exact if_neg hlast

/-- After the last bit the phase is `PLACED` if no module in use is `Unset` (R305). -/
theorem plPlace_of_last {u : State} (h : u.withBit.bitpos.toNat = u.slen) :
    plPlace u = if ∀ r < u.size, ∀ c < u.size, u.withBit.moduleAt r c ≠ .unset then
      .ok { plNext u.withBit with phase := .placed } else .error .invariantViolation := by
  have hlast : (plNext u.withBit).bitpos.toNat = (plNext u.withBit).slen := by
    rw [plNext_bitpos, plNext_slen]
    exact h
  have hfull : (plNext u.withBit).noUnset = true ↔ ∀ r < u.size, ∀ c < u.size, u.withBit.moduleAt r c ≠ .unset := by
    rw [noUnset_eq_true_iff, plNext_size]
    simp only [plNext_moduleAt]
    exact Iff.rfl
  refine (if_pos hlast).trans ?_
  rw [require_bind]
  exact if_congr hfull rfl rfl

/-- `PL_BIT` is the skipping loop's position, then the bit placed there, or an error where there is no `Unset` module. -/
theorem plBitBody_of_first {n : Nat} {s : State} (hn : n ≤ s.size * s.size)
    (hbefore : ∀ k < n, (plNexts k s).plDone = false ∧ (plNexts k s).plModule ≠ .unset) :
    ((plNexts n s).plDone = true → plBitBody s = .error .invariantViolation) ∧
    ((plNexts n s).plDone = false → (plNexts n s).plModule = .unset → plBitBody s = plPlace (plNexts n s)) := by
  constructor
  · intro hdone
    rw [plBitBody, plSkip_of_first hn hbefore (by simp [hdone]), require_false (by simp [hdone]), error_bind]
  · intro hdone hunset
    rw [plBitBody, plSkip_of_first hn hbefore (by simp [hunset]), require_true ⟨hdone, hunset⟩, ok_bind]

/-- Settles O51: the loop stops at the given position; there the bit is placed and the position moved. -/
theorem plBit : Obligations.PlBit := by
  unfold Obligations.PlBit
  intro s n hs hn hbefore u
  obtain ⟨hend, hplace⟩ := plBitBody_of_first hn hbefore
  have hsame : u.streamBit s.bitpos.toNat = s.streamBit s.bitpos.toNat ∧ u.bitpos = s.bitpos ∧ u.slen = s.slen ∧
      u.size = s.size ∧ u.grid = s.grid := by
    obtain ⟨_, _, _, _, _, h⟩ := plNexts_positionOnly n s
    rw [show u = _ from h]
    exact ⟨rfl, rfl, rfl, rfl, rfl⟩
  obtain ⟨hbit, hpos, hslen, hsize, hgrid⟩ := hsame
  have hcount : BitVec.ofNat 15 (u.bitpos.toNat + 1) = s.bitpos + 1 := by
    rw [hpos, BitVec.ofNat_add, BitVec.ofNat_toNat, BitVec.setWidth_eq]
    rfl
  have hwith : u.withBit.bitpos = s.bitpos + 1 := hcount
  have hnext : plNext u.withBit = { plNext u with grid := u.withBit.grid, bitpos := s.bitpos + 1 } := by
    rw [← hcount]
    exact plNext_update ..
  refine ⟨fun hd => raises_of_phase hs rfl (hend hd), fun hd hu => ⟨u.withBit.grid, fun r c => ?_, fun hne => ?_,
    fun hlast hsome => ?_, fun hlast hnone => ?_⟩⟩
  · have hat := moduleAt_withBit u r c
    rw [hpos, hbit] at hat
    rw [State.moduleAt, ← hgrid]
    exact hat
  · refine exec_of_phase_ok hs rfl ?_
    rw [bodyOf, hplace hd hu, plPlace_of_not_last (by rwa [hwith, hslen]), hnext]
  · refine raises_of_phase hs rfl ?_
    obtain ⟨r, hr, c, hc, hunset⟩ := hsome
    rw [bodyOf, hplace hd hu, plPlace_of_last (by rwa [hwith, hslen]), if_neg]
    exact fun hall => hall r (hsize ▸ hr) c (hsize ▸ hc) hunset
  · refine exec_of_phase_ok hs rfl ?_
    rw [bodyOf, hplace hd hu, plPlace_of_last (by rwa [hwith, hslen]), if_pos, hnext]
    rw [hsize]
    exact hnone

end Sys2Proof.Machine
end

section
/-! SUPPORT. Placement as a whole (R300, R306): the bits go one by one into the `Unset` modules of the zig-zag, in its
order. -/
namespace Sys2Proof.Machine

/-- The modules of the first `i` positions that are `Unset` in `s`. -/
def freeBelow (s : State) (i : Nat) : List (Nat × Nat) :=
  ((List.range i).map (zigzag s.size)).filter fun rc => s.moduleAt rc.1 rc.2 = .unset

theorem freeBelow_all (s : State) : freeBelow s (s.size * (s.size - 1)) = freeCells s := rfl

theorem freeBelow_succ (s : State) (i : Nat) :
    freeBelow s (i + 1) = freeBelow s i ++
      if s.moduleAt (zigzag s.size i).1 (zigzag s.size i).2 = .unset then [zigzag s.size i] else [] := by
  rw [freeBelow, freeBelow, List.range_succ, List.map_append, List.filter_append, List.map_singleton]
  congr 1
  split
  · next h => exact List.filter_cons_of_pos (by simpa using h)
  · next h => exact List.filter_cons_of_neg (by simpa using h)

theorem freeBelow_prefix (s : State) {i j : Nat} (h : i ≤ j) : freeBelow s i <+: freeBelow s j := by
  induction j, h using Nat.le_induction with
  | base => exact List.prefix_rfl
  | succ j _ ih => exact ih.trans (freeBelow_succ s j ▸ List.prefix_append _ _)

/-- The free modules of the first positions are the first free modules. -/
theorem freeBelow_eq_take {s : State} {i : Nat} (hi : i ≤ s.size * (s.size - 1)) :
    freeBelow s i = (freeCells s).take (freeBelow s i).length :=
  List.prefix_iff_eq_take.mp (freeBelow_all s ▸ freeBelow_prefix s hi)

/-- A position that is not `Unset` adds nothing. -/
theorem freeBelow_add_of_not_unset {s : State} {i n : Nat}
    (h : ∀ k < n, s.moduleAt (zigzag s.size (i + k)).1 (zigzag s.size (i + k)).2 ≠ .unset) :
    freeBelow s (i + n) = freeBelow s i := by
  induction n with
  | zero => rfl
  | succ n ih =>
    rw [← Nat.add_assoc, freeBelow_succ, if_neg (h n (Nat.lt_succ_self n)), List.append_nil]
    exact ih fun k hk => h k (Nat.lt_succ_of_lt hk)

/-- While free modules are left there is a first one among the positions ahead. -/
theorem exists_next_free {s : State} {i : Nat} (hi : i ≤ s.size * (s.size - 1))
    (hlt : (freeBelow s i).length < (freeCells s).length) :
    ∃ n, i + n < s.size * (s.size - 1) ∧
      s.moduleAt (zigzag s.size (i + n)).1 (zigzag s.size (i + n)).2 = .unset ∧
      ∀ k < n, s.moduleAt (zigzag s.size (i + k)).1 (zigzag s.size (i + k)).2 ≠ .unset := by
  have hexists : ∃ n, i + n < s.size * (s.size - 1) ∧
      s.moduleAt (zigzag s.size (i + n)).1 (zigzag s.size (i + n)).2 = .unset := by
    by_contra hnone
    have hall := freeBelow_add_of_not_unset (s := s) (i := i) (n := s.size * (s.size - 1) - i) fun k hk hu =>
      hnone ⟨k, by omega, hu⟩
    rw [Nat.add_sub_cancel' hi, freeBelow_all] at hall
    rw [hall] at hlt
    exact Nat.lt_irrefl _ hlt
  classical
  obtain ⟨hn, hunset⟩ := Nat.find_spec hexists
  exact ⟨Nat.find hexists, hn, hunset, fun k hk hu => Nat.find_min hexists hk ⟨by omega, hu⟩⟩

/-- A module ahead is not among the free modules passed. -/
theorem zigzag_notMem_freeBelow {s : State} (h1 : 1 ≤ s.ver.toNat) {i j : Nat} (hij : i ≤ j)
    (hj : j < s.size * (s.size - 1)) : zigzag s.size j ∉ freeBelow s i := by
  intro hmem
  obtain ⟨k, hk, heq⟩ := List.mem_map.mp (List.mem_filter.mp hmem).1
  have hki := List.mem_range.mp hk
  obtain ⟨-, -, -, hindexk⟩ := zigzag_spec h1 (i := k) (by omega)
  obtain ⟨-, -, -, hindexj⟩ := zigzag_spec h1 hj
  rw [heq, hindexj] at hindexk
  omega

/-- At the next free position the passed free modules become one more. -/
theorem freeBelow_next {s : State} {i n b : Nat} (hpassed : freeBelow s i = (freeCells s).take b)
    (hb : b < (freeCells s).length) (hn : i + n < s.size * (s.size - 1))
    (hunset : s.moduleAt (zigzag s.size (i + n)).1 (zigzag s.size (i + n)).2 = .unset)
    (hbefore : ∀ k < n, s.moduleAt (zigzag s.size (i + k)).1 (zigzag s.size (i + k)).2 ≠ .unset) :
    (freeCells s).take (b + 1) = (freeCells s).take b ++ [zigzag s.size (i + n)] ∧
      freeBelow s (i + n + 1) = (freeCells s).take (b + 1) := by
  have hlen : ((freeCells s).take b).length = b := List.length_take_of_le hb.le
  have hnext : freeBelow s (i + n + 1) = (freeCells s).take b ++ [zigzag s.size (i + n)] := by
    rw [freeBelow_succ, if_pos hunset, freeBelow_add_of_not_unset hbefore, hpassed]
  have htake : freeBelow s (i + n + 1) = (freeCells s).take (b + 1) := by
    rw [freeBelow_eq_take (i := i + n + 1) hn, hnext, List.length_append, hlen, List.length_singleton]
  exact ⟨htake ▸ hnext, htake⟩

/-! The grid between two bits. -/

/-- The first `b` free modules hold the first `b` bits, every other module is as in `s`. -/
structure Filled (s : State) (b : Nat) (g : List (List Module)) : Prop where
  placed : ∀ j < b, ∀ rc, (freeCells s)[j]? = some rc → gridAt g rc.1 rc.2 = .data (s.streamBit j)
  others : ∀ r c, (r, c) ∉ (freeCells s).take b → gridAt g r c = s.moduleAt r c

theorem filled_zero (s : State) : Filled s 0 s.grid := ⟨fun _ hj => absurd hj (Nat.not_lt_zero _), fun _ _ _ => rfl⟩

/-- The next bit in the next free module. -/
theorem Filled.succ {s : State} {b : Nat} {g g' : List (List Module)} {cell : Nat × Nat} (hg : Filled s b g)
    (hb : b < (freeCells s).length) (htake : (freeCells s).take (b + 1) = (freeCells s).take b ++ [cell])
    (hnew : cell ∉ (freeCells s).take b)
    (hat : ∀ r c, gridAt g' r c = if (r, c) = cell then .data (s.streamBit b) else gridAt g r c) :
    Filled s (b + 1) g' := by
  refine ⟨fun j hj rc hrc => ?_, fun r c hout => ?_⟩
  · rw [hat]
    rcases Nat.lt_or_eq_of_le (Nat.le_of_lt_succ hj) with h | rfl
    · have hmem : rc ∈ (freeCells s).take b := List.mem_of_getElem? ((List.getElem?_take_of_lt h).trans hrc)
      rw [if_neg (show rc ≠ cell from fun he => hnew (he ▸ hmem))]
      exact hg.placed j h rc hrc
    · have hcell : (freeCells s)[j]? = some cell := by
        rw [← List.getElem?_take_of_lt (Nat.lt_succ_self j), htake,
          List.getElem?_append_right (List.length_take_le ..), List.length_take_of_le hb.le, Nat.sub_self]
        rfl
      rw [if_pos (Option.some.inj (hrc.symm.trans hcell))]
  · rw [htake, List.mem_append, List.mem_singleton, not_or] at hout
    rw [hat, if_neg hout.2, hg.others r c hout.1]

/-! The state between two bits. -/

/-- The placer after `i` moves with `b` bits placed, which made the grid `g`. -/
def fillingState (s : State) (i b : Nat) (g : List (List Module)) : State :=
  { plNexts i (plStarted s) with grid := g, bitpos := BitVec.ofNat 15 b }

theorem fillingState_frame (s : State) (i b : Nat) (g : List (List Module)) :
    ∃ row pair dir side done, fillingState s i b g = { s with
      grid := g, bitpos := BitVec.ofNat 15 b, plRow := row, plColpair := pair, plDir := dir, plSide := side,
      plDone := done } := by
  obtain ⟨_, _, _, _, _, h⟩ := plNexts_positionOnly i (plStarted s)
  exact ⟨_, _, _, _, _, by rw [fillingState, h]; rfl⟩

/-- What the position does not touch. -/
theorem fillingState_same (s : State) (i b : Nat) (g : List (List Module)) :
    (fillingState s i b g).size = s.size ∧ (fillingState s i b g).slen = s.slen ∧
      (fillingState s i b g).phase = s.phase ∧ (fillingState s i b g).streamBit = s.streamBit := by
  obtain ⟨_, _, _, _, _, h⟩ := fillingState_frame s i b g
  rw [h]
  exact ⟨rfl, rfl, rfl, rfl⟩

theorem plNexts_fillingState (s : State) (i n b : Nat) (g : List (List Module)) :
    plNexts n (fillingState s i b g) = fillingState s (i + n) b g := by
  rw [fillingState, plNexts_update, ← plNexts_add, fillingState]

theorem fillingState_succ (s : State) (i b : Nat) (g : List (List Module)) : fillingState s (i + 1) b g =
    { plNext (plNexts i (plStarted s)) with grid := g, bitpos := BitVec.ofNat 15 b } := by
  rw [fillingState, plNexts_succ]

theorem bitpos_withBit_fillingState (s : State) (i : Nat) {b : Nat} (hb : b < 2 ^ 15) (g : List (List Module)) :
    (fillingState s i b g).withBit.bitpos = BitVec.ofNat 15 (b + 1) := by
  show BitVec.ofNat 15 ((BitVec.ofNat 15 b).toNat + 1) = _
  rw [BitVec.toNat_ofNat, Nat.mod_eq_of_lt hb]

theorem plNext_withBit_fillingState (s : State) (i : Nat) {b : Nat} (hb : b < 2 ^ 15) (g : List (List Module)) :
    plNext (fillingState s i b g).withBit = fillingState s (i + 1) (b + 1) (fillingState s i b g).withBit.grid := by
  refine (plNext_update (plNexts i (plStarted s)) _ _).trans ?_
  rw [fillingState_succ, ← bitpos_withBit_fillingState s i hb g]
  rfl

section
variable {s : State} (h1 : 1 ≤ s.ver.toNat) (h40 : s.ver.toNat ≤ 40)
include h1 h40

/-- The position between two bits. -/
theorem position_fillingState {i : Nat} (b : Nat) (g : List (List Module)) (hi : i < s.size * (s.size - 1)) :
    (fillingState s i b g).plDone = false ∧ (fillingState s i b g).plRow.toNat = (zigzag s.size i).1 ∧
      (fillingState s i b g).plCol = (zigzag s.size i).2 := by
  have hat := position_zigzagState h1 h40 i
  rw [← plNexts_plStarted h1 h40 hi] at hat
  refine ⟨?_, congrArg Prod.fst hat, congrArg Prod.snd hat⟩
  show (plNexts i (plStarted s)).plDone = false
  rw [plNexts_plStarted h1 h40 hi]
  rfl

theorem freeCells_length_lt : (freeCells s).length < 2 ^ 15 := by
  have hle : (freeCells s).length ≤ s.size * (s.size - 1) :=
    (List.length_filter_le ..).trans (by rw [List.length_map, List.length_range])
  have hsize := size_eq h1
  have hmul : s.size * (s.size - 1) ≤ 177 * 176 := Nat.mul_le_mul (by omega) (by omega)
  omega

/-- The module the placer is at, while its position is ahead of the free modules that are filled. -/
theorem plModule_fillingState {i j b : Nat} {g : List (List Module)} (hpassed : freeBelow s i = (freeCells s).take b)
    (hg : Filled s b g) (hij : i ≤ j) (hj : j < s.size * (s.size - 1)) :
    (fillingState s j b g).plModule = s.moduleAt (zigzag s.size j).1 (zigzag s.size j).2 := by
  obtain ⟨-, hrow, hcol⟩ := position_fillingState h1 h40 b g hj
  rw [State.plModule, hrow, hcol]
  exact hg.others _ _ (hpassed ▸ zigzag_notMem_freeBelow h1 hij hj)

/-- The grid with the next bit placed. -/
theorem gridAt_withBit_fillingState {i b : Nat} {g : List (List Module)} (hi : i < s.size * (s.size - 1))
    (hb : b < 2 ^ 15) (r c : Nat) : gridAt (fillingState s i b g).withBit.grid r c =
      if (r, c) = zigzag s.size i then .data (s.streamBit b) else gridAt g r c := by
  obtain ⟨-, hrow, hcol⟩ := position_fillingState h1 h40 b g hi
  obtain ⟨-, -, -, hbits⟩ := fillingState_same s i b g
  have hnum : (fillingState s i b g).bitpos.toNat = b := by
    rw [fillingState, BitVec.toNat_ofNat, Nat.mod_eq_of_lt hb]
  have hat := moduleAt_withBit (fillingState s i b g) r c
  rw [hrow, hcol, hnum, hbits] at hat
  exact hat.trans (if_congr (Prod.ext_iff (x := (r, c))).symm rfl rfl)

/-- One bit of the run: the next free module takes it (R305). -/
theorem plBitBody_fillingState {i b : Nat} {g : List (List Module)} (hi : i ≤ s.size * (s.size - 1))
    (hpassed : freeBelow s i = (freeCells s).take b) (hb : b < (freeCells s).length) (hg : Filled s b g) :
    ∃ j < s.size * (s.size - 1), plBitBody (fillingState s i b g) = plPlace (fillingState s j b g) ∧
      freeBelow s (j + 1) = (freeCells s).take (b + 1) ∧
      Filled s (b + 1) (fillingState s j b g).withBit.grid := by
  obtain ⟨n, hn, hunset, hbefore⟩ := exists_next_free hi (by rw [hpassed, List.length_take_of_le hb.le]; exact hb)
  obtain ⟨htake, hpassed'⟩ := freeBelow_next hpassed hb hn hunset hbefore
  have hnew := hpassed ▸ zigzag_notMem_freeBelow h1 (Nat.le_add_right i n) hn
  have hb15 : b < 2 ^ 15 := hb.trans (freeCells_length_lt h1 h40)
  have hat : ∀ k, i + k < s.size * (s.size - 1) → (plNexts k (fillingState s i b g)).plDone = false ∧
      (plNexts k (fillingState s i b g)).plModule =
        s.moduleAt (zigzag s.size (i + k)).1 (zigzag s.size (i + k)).2 := fun k hk => by
    rw [plNexts_fillingState]
    exact ⟨(position_fillingState h1 h40 b g hk).1, plModule_fillingState h1 h40 hpassed hg (Nat.le_add_right i k) hk⟩
  have hfuel : n ≤ (fillingState s i b g).size * (fillingState s i b g).size := by
    have := Nat.mul_le_mul_left s.size (Nat.sub_le s.size 1)
    rw [(fillingState_same s i b g).1]
    omega
  obtain ⟨-, hplace⟩ := plBitBody_of_first hfuel fun k hk =>
    ⟨(hat k (by omega)).1, (hat k (by omega)).2 ▸ hbefore k hk⟩
  refine ⟨i + n, hn, ?_, hpassed', hg.succ hb htake hnew (gridAt_withBit_fillingState h1 h40 hn hb15)⟩
  rw [hplace (hat n hn).1 ((hat n hn).2.trans hunset), plNexts_fillingState]

omit h40 in
/-- With all free modules filled, no module in use is `Unset`. -/
theorem Filled.not_unset {g : List (List Module)} (hg : Filled s (freeCells s).length g)
    (h6 : ∀ r < s.size, s.moduleAt r 6 ≠ .unset) : ∀ r < s.size, ∀ c < s.size, gridAt g r c ≠ .unset := by
  intro r hr c hc
  by_cases hmem : (r, c) ∈ freeCells s
  · obtain ⟨j, hj⟩ := List.mem_iff_getElem?.mp hmem
    rw [hg.placed j (List.getElem?_eq_some_iff.mp hj).1 _ hj]
    exact Module.noConfusion
  · rw [hg.others r c (fun h => hmem (List.mem_of_mem_take h))]
    intro hunset
    by_cases hc6 : c = 6
    · exact h6 r hr (hc6 ▸ hunset)
    · obtain ⟨hlt, hat⟩ := zigzag_zigzagIndex h1 hr hc hc6
      refine hmem (List.mem_filter.mpr ⟨List.mem_map.mpr ⟨_, List.mem_range.mpr hlt, hat⟩, ?_⟩)
      exact decide_eq_true hunset

/-- One round of the loop of `PL_RUN`. -/
theorem plRunLoop_succ_fillingState (hs : s.phase = .placing) (fuel : Nat) {i b : Nat} {g : List (List Module)}
    (hi : i ≤ s.size * (s.size - 1)) (hpassed : freeBelow s i = (freeCells s).take b)
    (hb : b < (freeCells s).length) (hg : Filled s b g) :
    ∃ j < s.size * (s.size - 1),
      plRunLoop (fuel + 1) (fillingState s i b g) = plPlace (fillingState s j b g) >>= plRunLoop fuel ∧
      (fillingState s j b g).withBit.bitpos.toNat = b + 1 ∧
      plNext (fillingState s j b g).withBit = fillingState s (j + 1) (b + 1) (fillingState s j b g).withBit.grid ∧
      freeBelow s (j + 1) = (freeCells s).take (b + 1) ∧ Filled s (b + 1) (fillingState s j b g).withBit.grid := by
  obtain ⟨j, hj, hbody, hpassed', hg'⟩ := plBitBody_fillingState h1 h40 hi hpassed hb hg
  have hlt := freeCells_length_lt h1 h40
  have hb15 : b < 2 ^ 15 := by omega
  have hphase : (fillingState s i b g).phase = .placing := (fillingState_same s i b g).2.2.1.trans hs
  refine ⟨j, hj, ?_, ?_, plNext_withBit_fillingState s j hb15 _, hpassed', hg'⟩
  · rw [plRunLoop_succ_of_placing fuel hphase, hbody]
  · rw [bitpos_withBit_fillingState s j hb15, BitVec.toNat_ofNat, Nat.mod_eq_of_lt (by omega)]

/-- The loop of `PL_RUN` from `b` bits placed on: it places the others and ends in `PLACED`. -/
theorem plRunLoop_fillingState (hs : s.phase = .placing) (hslen : (freeCells s).length = s.slen)
    (h6 : ∀ r < s.size, s.moduleAt r 6 ≠ .unset) {k fuel i b : Nat} {g : List (List Module)}
    (hk : b + k + 1 = (freeCells s).length) (hfuel : k < fuel) (hi : i ≤ s.size * (s.size - 1))
    (hpassed : freeBelow s i = (freeCells s).take b) (hg : Filled s b g) :
    ∃ j g', plRunLoop fuel (fillingState s i b g) =
        .ok { fillingState s j (freeCells s).length g' with phase := .placed } ∧
      Filled s (freeCells s).length g' := by
  induction k generalizing fuel i b g with
  | zero =>
    obtain ⟨fuel, rfl⟩ : ∃ f, fuel = f + 1 := ⟨fuel - 1, by omega⟩
    obtain ⟨j, hj, hloop, hcount, hnext, -, hg'⟩ :=
      plRunLoop_succ_fillingState h1 h40 hs fuel hi hpassed (by omega) hg
    obtain ⟨hsize, hsame, -, -⟩ := fillingState_same s j b g
    have hlast : (fillingState s j b g).withBit.bitpos.toNat = (fillingState s j b g).slen := by
      rw [hcount, hsame, ← hslen, ← hk]
    have hfull : Filled s (freeCells s).length (fillingState s j b g).withBit.grid := hk ▸ hg'
    refine ⟨j + 1, _, ?_, hfull⟩
    have hset : ∀ r < s.size, ∀ c < s.size, (fillingState s j b g).withBit.moduleAt r c ≠ .unset :=
      hfull.not_unset h1 h6
    rw [hloop, plPlace_of_last hlast, hsize, if_pos hset, ok_bind,
      plRunLoop_of_not_placing _ Phase.noConfusion, hnext, ← hk]
  | succ k ih =>
    obtain ⟨fuel, rfl⟩ : ∃ f, fuel = f + 1 := ⟨fuel - 1, by omega⟩
    obtain ⟨j, hj, hloop, hcount, hnext, hpassed', hg'⟩ :=
      plRunLoop_succ_fillingState h1 h40 hs fuel hi hpassed (by omega) hg
    have hmore : (fillingState s j b g).withBit.bitpos.toNat ≠ (fillingState s j b g).slen := by
      rw [hcount, (fillingState_same s j b g).2.1, ← hslen]
      omega
    rw [hloop, plPlace_of_not_last hmore, ok_bind, hnext]
    exact ih (by omega) (by omega) hj hpassed' hg'

end

/-- Settles O53: bit by bit the next free module of the zig-zag is filled, and after the last bit none is left. -/
theorem placementFills : Obligations.PlacementFills := by
  unfold Obligations.PlacementFills
  intro s hs hfn h1 h40 hpos h6 hfree
  have hstart : plStartBody s = .ok (fillingState { s with phase := .placing } 0 0 s.grid) :=
    plStartBody_of_functions hfn
  have hfuel : s.slen - 1 < s.size * s.size := by
    have hle : (freeCells s).length ≤ s.size * (s.size - 1) :=
      (List.length_filter_le ..).trans (by rw [List.length_map, List.length_range])
    have := Nat.mul_le_mul_left s.size (Nat.sub_le s.size 1)
    omega
  obtain ⟨j, g, hloop, hg⟩ := plRunLoop_fillingState (s := { s with phase := .placing }) h1 h40 rfl hfree h6
    (k := s.slen - 1) (fuel := s.size * s.size) (i := 0) (b := 0)
    (by show 0 + (s.slen - 1) + 1 = (freeCells s).length; omega) hfuel (Nat.zero_le _) rfl (filled_zero _)
  have hlen : (freeCells { s with phase := .placing }).length = s.slen := hfree
  rw [hlen] at hloop hg
  obtain ⟨_, _, _, _, _, hframe⟩ := fillingState_frame { s with phase := .placing } j s.slen g
  refine ⟨{ fillingState { s with phase := .placing } j s.slen g with phase := .placed },
    exec_of_phase_ok hs rfl ?_, ?_, ?_, ?_, ?_⟩
  · rw [bodyOf, plRunBody_of_matrix hs, hstart, ok_bind]
    exact hloop
  · rw [hframe]
  · rw [hframe, BitVec.toNat_ofNat, Nat.mod_eq_of_lt]
    have := freeCells_length_lt h1 h40
    omega
  · exact fun i hi rc hrc => hg.placed i hi rc hrc
  · exact fun r c hout => hg.others r c fun hmem => hout (List.mem_of_mem_take hmem)

end Sys2Proof.Machine
end

section
/-! SUPPORT. Penalty N1 of a line (R327) by windows of five: both counts read off a line from its front, and a run added
in front of a line that begins otherwise. -/
namespace Sys2Proof.Machine

/-- The first five values are there and equal. -/
def uniformFive (l : List Bool) : Bool := l.take 5 = List.replicate 5 true || l.take 5 = List.replicate 5 false

/-- The windows of a line, one place after the other. -/
def windows : List Bool → Nat
  | [] => 0
  | x :: xs => (uniformFive (x :: xs)).toNat + windows xs

/-- The windows where a run starts, in a line that follows the value `prev`. -/
def starts (prev : Option Bool) : List Bool → Nat
  | [] => 0
  | x :: xs => (uniformFive (x :: xs) && prev ≠ some x).toNat + starts (some x) xs

/-- Fewer than five values are no window. -/
theorem uniformFive_of_short {l : List Bool} (h : l.length < 5) : uniformFive l = false := by
  have hne : ∀ b, l.take 5 ≠ List.replicate 5 b := fun b he => by
    have hlen := congrArg List.length he
    rw [List.length_take, List.length_replicate] at hlen
    omega
  rw [uniformFive, decide_eq_false (hne true), decide_eq_false (hne false)]
  rfl

/-- A count over the windows of a line: the first place, then the places of the rest. -/
theorem length_filter_windows_cons (x : Bool) (xs : List Bool) (p : Nat → Bool)
    (h : xs.length < 4 → p 0 = false) :
    ((List.range ((x :: xs).length - 4)).filter p).length =
      (p 0).toNat + ((List.range (xs.length - 4)).filter fun k => p (k + 1)).length := by
  rw [List.length_cons]
  rcases Nat.lt_or_ge xs.length 4 with hlt | hge
  · rw [h hlt, show xs.length + 1 - 4 = 0 by omega, show xs.length - 4 = 0 by omega]
    rfl
  · rw [show xs.length + 1 - 4 = (xs.length - 4) + 1 by omega, List.range_succ_eq_map, List.filter_cons, List.filter_map]
    cases p 0
    · rw [if_neg Bool.false_ne_true, List.length_map]; simp [Function.comp_def]
    · rw [if_pos rfl, List.length_cons, List.length_map, Nat.add_comm]; rfl

theorem windowsOfFive_eq (l : List Bool) : windowsOfFive l = windows l := by
  induction l with
  | nil => rfl
  | cons x xs ih =>
    rw [windows, ← ih]
    exact length_filter_windows_cons x xs (fun k => uniformFive ((x :: xs).drop k))
      fun hlt => uniformFive_of_short (Nat.succ_lt_succ hlt)

theorem length_filter_starts (prev : Option Bool) (l : List Bool) :
    ((List.range (l.length - 4)).filter fun k =>
      uniformFive (l.drop k) && (if k = 0 then prev else l[k - 1]?) ≠ l[k]?).length = starts prev l := by
  induction l generalizing prev with
  | nil => rfl
  | cons x xs ih =>
    rw [starts, ← ih (some x), length_filter_windows_cons]
    · congr 3
      funext k
      cases k <;> rfl
    · intro hlt
      rw [List.drop_zero, uniformFive_of_short (l := x :: xs) (Nat.succ_lt_succ hlt), Bool.false_and]

theorem runsOfFive_eq (l : List Bool) : runsOfFive l = starts none l := by
  rw [← length_filter_starts, runsOfFive]
  refine congrArg List.length (List.filter_congr fun k hk => ?_)
  rw [List.mem_range] at hk
  have hsome : ∃ x, l[k]? = some x := ⟨l[k], List.getElem?_eq_getElem (by omega)⟩
  obtain ⟨x, hx⟩ := hsome
  rw [hx, uniformFive]
  cases k with
  | zero => simp
  | succ k => simp

/-! A run in front of a line that begins otherwise. -/

/-- The first five values of a run of `n + 1` and what follows are a window if and only if the run is that long. -/
theorem uniformFive_replicate_append {c : Bool} {l : List Bool} (hl : l[0]? ≠ some c) (n : Nat) :
    uniformFive (List.replicate (n + 1) c ++ l) = decide (4 ≤ n) := by
  by_cases hn : 4 ≤ n
  · have htake : (List.replicate (n + 1) c ++ l).take 5 = List.replicate 5 c := by
      rw [List.take_append_of_le_length (by rw [List.length_replicate]; omega), List.take_replicate,
        Nat.min_eq_left (by omega)]
    rw [uniformFive, htake, decide_eq_true hn]
    cases c <;> rfl
  · have hne : ∀ b, (List.replicate (n + 1) c ++ l).take 5 ≠ List.replicate 5 b := fun b he => by
      have hfirst := congrArg (·[0]?) he
      have hafter := congrArg (·[n + 1]?) he
      simp only [List.getElem?_take, List.getElem?_replicate] at hfirst hafter
      rw [if_pos (by omega), if_pos (by omega), List.getElem?_append_left (by simp)] at hfirst
      rw [if_pos (by omega), if_pos (by omega), List.getElem?_append_right (by simp), List.length_replicate,
        Nat.sub_self] at hafter
      obtain rfl : c = b := by simpa using hfirst
      exact hl hafter
    rw [uniformFive, decide_eq_false (hne true), decide_eq_false (hne false), decide_eq_false hn]
    rfl

theorem windows_replicate_append {c : Bool} {l : List Bool} (hl : l[0]? ≠ some c) (n : Nat) :
    windows (List.replicate n c ++ l) = (n - 4) + windows l := by
  induction n with
  | zero => simp
  | succ n ih =>
    have huniform := uniformFive_replicate_append hl n
    rw [List.replicate_succ, List.cons_append] at huniform ⊢
    rw [windows, huniform, ih]
    by_cases hn : 4 ≤ n
    · rw [decide_eq_true hn, Bool.toNat_true]; omega
    · rw [decide_eq_false hn, Bool.toNat_false]; omega

/-- Inside a run no run starts. -/
theorem starts_replicate_append_same (c : Bool) (l : List Bool) (n : Nat) :
    starts (some c) (List.replicate n c ++ l) = starts (some c) l := by
  induction n with
  | zero => rfl
  | succ n ih => rw [List.replicate_succ, List.cons_append, starts, ih]; simp

theorem starts_replicate_append {prev : Option Bool} {c : Bool} {l : List Bool} (hprev : prev ≠ some c)
    (hl : l[0]? ≠ some c) (n : Nat) :
    starts prev (List.replicate (n + 1) c ++ l) = (decide (4 ≤ n)).toNat + starts (some c) l := by
  have huniform := uniformFive_replicate_append hl n
  rw [List.replicate_succ, List.cons_append] at huniform ⊢
  rw [starts, huniform, starts_replicate_append_same, decide_eq_true hprev, Bool.and_true]

/-- A run's score: its windows, and two for its start (R327). -/
theorem runScore_succ (n : Nat) : runScore (n + 1) = (n + 1 - 4) + 2 * (decide (4 ≤ n)).toNat := by
  unfold runScore
  by_cases hn : 4 ≤ n
  · rw [if_pos (by omega), decide_eq_true hn, Bool.toNat_true]; omega
  · rw [if_neg (by omega), decide_eq_false hn, Bool.toNat_false]; omega

/-- The runs of a line that begins with a run of `n + 1`. -/
theorem sum_runScore_runsFrom {prev : Option Bool} {c : Bool} (hprev : prev ≠ some c) (n : Nat) (xs : List Bool) :
    ((runsFrom c (n + 1) xs).map runScore).sum =
      windows (List.replicate (n + 1) c ++ xs) + 2 * starts prev (List.replicate (n + 1) c ++ xs) := by
  induction xs generalizing prev c n with
  | nil =>
    have hnil : ([] : List Bool)[0]? ≠ some c := by simp
    rw [windows_replicate_append hnil, starts_replicate_append hprev hnil, runsFrom]
    simp only [List.map_singleton, List.sum_singleton, windows, starts, Nat.add_zero, runScore_succ]
  | cons x xs ih =>
    rw [runsFrom]
    by_cases hx : x = c
    · subst hx
      have hmerge : List.replicate (n + 1) x ++ x :: xs = List.replicate (n + 1 + 1) x ++ xs := by
        rw [List.replicate_succ' (n := n + 1), List.append_assoc]; rfl
      rw [if_pos rfl, ih hprev (n + 1), hmerge]
    · have hhead : (x :: xs)[0]? ≠ some c := by simpa using hx
      have hrest := ih (prev := some c) (c := x) (by simpa using Ne.symm hx) 0
      rw [if_neg hx, List.map_cons, List.sum_cons, hrest, windows_replicate_append hhead,
        starts_replicate_append hprev hhead, runScore_succ]
      simp only [Nat.zero_add, List.replicate_one, List.singleton_append]
      omega

/-- Settles O56: a run of `L` in front of the rest adds `L - 4` windows and one start, if it has five values at all. -/
theorem runPenalty : Obligations.RunPenalty := by
  intro line
  rw [windowsOfFive_eq, runsOfFive_eq, lineN1]
  cases line with
  | nil => rfl
  | cons x xs => exact sum_runScore_runsFrom (prev := none) (by simp) 0 xs

end Sys2Proof.Machine
end

section
/-! SUPPORT. The four parts of the penalty said by rows and columns (R325, R327 to R330), and their bounds (R331). -/
namespace Sys2Proof.Machine

theorem sum_penaltyLines (f : List Bool → Nat) (size : Nat) (g : List (List Module)) :
    ((penaltyLines size g).map f).sum =
      sumBelow size fun i => f (darkRow size g i) + f (darkCol size g i) := by
  rw [penaltyLines, List.map_append, List.sum_append, List.map_map, List.map_map, sumBelow, List.sum_map_add]
  rfl

theorem penaltyN1_eq (size : Nat) (g : List (List Module)) : penaltyN1 size g = sumBelow size fun i =>
    windowsOfFive (darkRow size g i) + 2 * runsOfFive (darkRow size g i) +
      (windowsOfFive (darkCol size g i) + 2 * runsOfFive (darkCol size g i)) := by
  rw [penaltyN1, sum_penaltyLines]
  congr 1
  funext i
  rw [runPenalty, runPenalty]

theorem blockUniform_eq (g : List (List Module)) (r c : Nat) : blockUniform g r c =
    (darkOf (gridAt g r c) == darkOf (gridAt g r (c + 1)) && darkOf (gridAt g r c) == darkOf (gridAt g (r + 1) c) &&
      darkOf (gridAt g r c) == darkOf (gridAt g (r + 1) (c + 1))) := by
  unfold blockUniform
  generalize darkOf (gridAt g r c) = a
  generalize darkOf (gridAt g r (c + 1)) = b
  generalize darkOf (gridAt g (r + 1) c) = d
  generalize darkOf (gridAt g (r + 1) (c + 1)) = e
  revert a b d e
  decide

theorem penaltyN2_eq (size : Nat) (g : List (List Module)) : penaltyN2 size g =
    3 * sumBelow (size - 1) fun r => (List.range (size - 1)).countP fun c =>
      darkOf (gridAt g r c) == darkOf (gridAt g r (c + 1)) && darkOf (gridAt g r c) == darkOf (gridAt g (r + 1) c) &&
        darkOf (gridAt g r c) == darkOf (gridAt g (r + 1) (c + 1)) := by
  unfold penaltyN2 sumBelow
  simp only [List.countP_eq_length_filter, ← blockUniform_eq]

/-! N3: a hit of the finder-like pattern at a place of a line (R329). -/

/-- A line given by its values. -/
def lineOf (size : Nat) (x : Nat → Bool) : List Bool := (List.range size).map x

/-- A position of a line is light, `outside` for one past its ends (R329). -/
def lightInt (outside : Bool) (size : Nat) (x : Nat → Bool) (t : Int) : Bool :=
  if 0 ≤ t ∧ t < size then !x t.toNat else outside

theorem lightAt_lineOf (outside : Bool) (size : Nat) (x : Nat → Bool) (t : Nat) :
    lightAt outside (lineOf size x) t = lightInt outside size x t := by
  unfold lightAt lightInt lineOf
  rw [List.getElem?_map]
  by_cases h : t < size
  · rw [List.getElem?_range h, if_pos ⟨by omega, by omega⟩]; rfl
  · rw [List.getElem?_eq_none (by simpa using h), if_neg (by omega)]; rfl

theorem lightBefore_lineOf (outside : Bool) (size : Nat) (x : Nat → Bool) (k : Nat) :
    lightBefore outside (lineOf size x) k =
      (lightInt outside size x (k - 4) && lightInt outside size x (k - 3) && lightInt outside size x (k - 2) &&
        lightInt outside size x (k - 1)) := by
  have hcell : ∀ j, (if j < k then lightAt outside (lineOf size x) (k - 1 - j) else outside) =
      lightInt outside size x (k - 1 - j) := fun j => by
    by_cases h : j < k
    · rw [if_pos h, lightAt_lineOf, show ((k - 1 - j : Nat) : Int) = k - 1 - j by omega]
    · rw [if_neg h, lightInt, if_neg (by omega)]
  have hrange : List.range 4 = [0, 1, 2, 3] := rfl
  simp only [lightBefore, hcell, hrange, List.all_cons, List.all_nil, Bool.and_true, sub_sub]
  rw [Bool.and_comm (lightInt outside size x (k - 4) && _ && _), Bool.and_comm (lightInt outside size x (k - 4) && _),
    Bool.and_comm (lightInt outside size x (k - 4))]
  rfl

theorem lightAfter_lineOf (outside : Bool) (size : Nat) (x : Nat → Bool) (k : Nat) :
    lightAfter outside (lineOf size x) k =
      (lightInt outside size x (k + 7) && lightInt outside size x (k + 8) && lightInt outside size x (k + 9) &&
        lightInt outside size x (k + 10)) := by
  have hrange : List.range 4 = [0, 1, 2, 3] := rfl
  simp only [lightAfter, lightAt_lineOf, hrange, List.all_cons, List.all_nil, Bool.and_true, Bool.and_assoc]
  rfl

/-- The seven values from a place of a line on. -/
theorem take_drop_lineOf {size k : Nat} (x : Nat → Bool) (h : k + 7 ≤ size) :
    ((lineOf size x).drop k).take 7 = [x k, x (k + 1), x (k + 2), x (k + 3), x (k + 4), x (k + 5), x (k + 6)] := by
  have hrange : ((List.range size).drop k).take 7 = List.range' k 7 := by
    rw [List.range_eq_range', show size = k + (7 + (size - k - 7)) by omega, ← List.range'_append_1,
      List.drop_left' (List.length_range' ..), ← List.range'_append_1, Nat.zero_add,
      List.take_left' (List.length_range' ..)]
  rw [lineOf, ← List.map_drop, ← List.map_take, hrange]
  rfl

theorem isHit_lineOf (outside : Bool) {size k : Nat} (x : Nat → Bool) (h : k + 7 ≤ size) :
    isHit outside (lineOf size x) k = hitAt outside size x k := by
  have hpattern : decide ([x k, x (k + 1), x (k + 2), x (k + 3), x (k + 4), x (k + 5), x (k + 6)] = finderLike) =
      (x k && !x (k + 1) && x (k + 2) && x (k + 3) && x (k + 4) && !x (k + 5) && x (k + 6)) := by
    simp [finderLike, Bool.and_assoc]
  rw [isHit, take_drop_lineOf x h, hpattern, lightBefore_lineOf, lightAfter_lineOf]
  rfl

theorem lineHits_lineOf (outside : Bool) (size : Nat) (x : Nat → Bool) :
    lineHits outside (lineOf size x) = (List.range (size - 6)).countP (hitAt outside size x) := by
  rw [lineHits, ← List.countP_eq_length_filter, lineOf, List.length_map, List.length_range]
  refine List.countP_congr fun k hk => ?_
  rw [List.mem_range] at hk
  rw [← lineOf, isHit_lineOf outside x (by omega)]

theorem penaltyN3_eq (outside : Bool) (size : Nat) (g : List (List Module)) : penaltyN3 outside size g =
    40 * sumBelow size fun i =>
      (List.range (size - 6)).countP (hitAt outside size fun c => darkOf (gridAt g i c)) +
        (List.range (size - 6)).countP (hitAt outside size fun r => darkOf (gridAt g r i)) := by
  rw [penaltyN3, sum_penaltyLines]
  simp only [← lineHits_lineOf]
  rfl

/-! N4: the balance of dark and light (R330). -/

theorem darkCount_eq (size : Nat) (g : List (List Module)) : darkCount size g =
    sumBelow size fun r => (List.range size).countP fun c => darkOf (gridAt g r c) := by
  unfold darkCount sumBelow darkRow
  congr 2
  funext r
  rw [List.count, List.countP_map]
  congr 1
  funext c
  simp

theorem absDiff_eq_natAbs (a b : Nat) : absDiff a b = (a - b : Int).natAbs := by
  unfold absDiff
  omega

/-! The bounds (R331). -/

/-- A run of five or more adds two less than its length: what a line's runs add is 0 or two less than the line. -/
theorem sum_runScore_le (l : List Nat) : (l.map runScore).sum = 0 ∨ (l.map runScore).sum + 2 ≤ l.sum := by
  induction l with
  | nil => exact .inl rfl
  | cons n l ih =>
    have hle : (l.map runScore).sum ≤ l.sum := by
      rcases ih with h | h <;> omega
    have hn : runScore n = 0 ∨ runScore n + 2 ≤ n := by
      unfold runScore
      split <;> omega
    rw [List.map_cons, List.sum_cons, List.sum_cons]
    omega

theorem lineN1_le (line : List Bool) : lineN1 line ≤ line.length - 2 := by
  have h := sum_runScore_le (runs line)
  rw [sum_runs] at h
  unfold lineN1
  omega

theorem lineHits_le (outside : Bool) (line : List Bool) : lineHits outside line ≤ line.length - 6 :=
  (List.length_filter_le ..).trans List.length_range.le

theorem sum_penaltyLines_le_mul {f : List Bool → Nat} {d : Nat} (h : ∀ line, f line ≤ line.length - d) (size : Nat)
    (g : List (List Module)) : ((penaltyLines size g).map f).sum ≤ 2 * size * (size - d) :=
  length_penaltyLines size g ▸ sum_map_le_length_mul fun line hline => length_of_mem_penaltyLines hline ▸ h line

/-- The score of a symbol is below `2 ^ 22` (R331). -/
theorem penalty_lt (p : Params) {size : Nat} (h : size ≤ 177) (g : List (List Module)) : penalty p size g < 2 ^ 22 := by
  have hle := penalty_le p size g
  have hsq : size * size ≤ 177 * 177 := Nat.mul_le_mul h h
  omega

theorem penaltyPart_le_penalty (k : Nat) (p : Params) (size : Nat) (g : List (List Module)) :
    penaltyPart k p size g ≤ penalty p size g := by
  unfold penaltyPart penalty
  split_ifs <;> omega

/-- `MK_PEN k` returns its part of the score whole (R332). -/
theorem exec_mkPen {k : Byte} {s : State} (hs : s.phase = .placed ∨ s.phase = .selected ∨ s.phase = .done)
    (hk : k.toNat ≤ 4) (h40 : s.ver.toNat ≤ 40) :
    ∃ v : Word, exec (.mkPen k) s = .next { s with res := v } ∧
      v.toNat = penaltyPart k.toNat s.params s.size s.grid := by
  have hsize : s.size ≤ 177 := by
    unfold State.size
    split <;> omega
  have hbody : mkPenBody k s = .ok (setRes (zext32 (penaltyPart k.toNat s.params s.size s.grid)) s) := by
    rw [mkPenBody, require_true hk, ok_bind]
  have hlt := penalty_lt s.params hsize s.grid
  have hle := penaltyPart_le_penalty k.toNat s.params s.size s.grid
  refine ⟨zext32 (penaltyPart k.toNat s.params s.size s.grid), ?_, ?_⟩
  · rcases hs with hs | hs | hs <;> exact exec_of_phase_ok hs rfl hbody
  · exact (BitVec.toNat_ofNat ..).trans (Nat.mod_eq_of_lt (by omega))

theorem raises_mkPen {k : Byte} {s : State} (hs : s.phase = .placed ∨ s.phase = .selected ∨ s.phase = .done)
    (hk : 4 < k.toNat) : Raises (.mkPen k) s .operandRange := by
  have hbody : mkPenBody k s = .error .operandRange := by
    rw [mkPenBody, require_false (Nat.not_le.mpr hk), error_bind]
  rcases hs with hs | hs | hs <;> exact raises_of_phase hs rfl hbody

/-- Settles O57: each part is a sum over rows and columns; a line's N1 and its hits are bounded by its length. -/
theorem penaltyBounds : Obligations.PenaltyBounds := by
  unfold Obligations.PenaltyBounds
  refine ⟨fun p size g _ => ?parts, fun size g outside mode _ => ?bounds, fun p size g _ h => penalty_lt p h g,
    fun k s hs => ⟨raises_mkPen hs, fun hk _ h40 => ?command⟩⟩
  case parts =>
    refine ⟨penaltyN1_eq size g, penaltyN2_eq size g, fun outside => penaltyN3_eq outside size g, ?_, ?_, rfl⟩
    · rw [penaltyN4, balancePenalty, absDiff_eq_natAbs, ← darkCount_eq]
      push_cast
      rfl
    · rw [penaltyN4, balancePenalty, absDiff_eq_natAbs, ← darkCount_eq]
      rfl
  case bounds =>
    refine ⟨sum_penaltyLines_le_mul lineN1_le size g, ?_, ?_, balancePenalty_le _ (darkCount_le size g)⟩
    · rw [pow_two]
      exact penaltyN2_le size g
    · have h := sum_penaltyLines_le_mul (lineHits_le outside) size g
      calc penaltyN3 outside size g
        _ ≤ 40 * (2 * size * (size - 6)) := Nat.mul_le_mul_left 40 h
        _ = 80 * size * (size - 6) := by ring
  case command =>
    obtain ⟨v, hexec, hv⟩ := exec_mkPen hs hk h40
    refine ⟨v, hexec, ?_, ?_, ?_, ?_, ?_⟩ <;> rintro rfl <;> exact hv

end Sys2Proof.Machine
end

section
/-! SUPPORT. The placement commands in any order (R279): a sequence of them is one list of writes, and two patterns that
write one module write the same value there. -/
namespace Sys2Proof.Machine

/-! A sequence of placement commands. -/

/-- The four placement commands. -/
def placementCommands : List Instr := [.mxFinder, .mxTiming, .mxAlign, .mxReserve]

/-- The writes of a placement command (R273 to R276). -/
def patternWrites (s : State) : Instr → List FuncWrite
  | .mxFinder => finderWrites s.size
  | .mxTiming => timingWrites s.size
  | .mxAlign => alignWrites s.size (alignAt s.params s.ver.toNat)
  | .mxReserve => reserveWrites s.ver.toNat s.size
  | _ => []

/-- The bit of `FNMASK` a placement command sets (R36). -/
def patternBit : Instr → BitVec 4
  | .mxFinder => fnFinder
  | .mxTiming => fnTiming
  | .mxAlign => fnAlign
  | .mxReserve => fnReserve
  | _ => 0

/-- The bits of `FNMASK` a sequence sets. -/
def patternBits (l : List Instr) : BitVec 4 := l.foldr (fun i b => patternBit i ||| b) 0

theorem exec_placementCommand {i : Instr} (hi : i ∈ placementCommands) {s : State} (hs : s.phase = .matrix) :
    exec i s = .next (setFn (patternBit i) (writeFuncs (patternWrites s i) s)) := by
  simp only [placementCommands, List.mem_cons, List.not_mem_nil, or_false] at hi
  rcases hi with rfl | rfl | rfl | rfl
  · exact exec_mxFinder hs
  · exact exec_mxTiming hs
  · exact exec_mxAlign hs
  · exact exec_mxReserve hs

/-- The patterns depend on the version and the tables only. -/
theorem patternWrites_setFn_writeFuncs (b : BitVec 4) (ws : List FuncWrite) (s : State) :
    patternWrites (setFn b (writeFuncs ws s)) = patternWrites s := by
  funext i
  cases i <;> rfl

/-- A sequence is one list of writes. -/
theorem execAll_placementCommands {l : List Instr} (hl : ∀ i ∈ l, i ∈ placementCommands) {s : State}
    (hs : s.phase = .matrix) :
    execAll l s = .next (setFn (patternBits l) (writeFuncs (l.flatMap (patternWrites s)) s)) := by
  induction l generalizing s with
  | nil =>
    show Host.Outcome.next s = _
    rw [patternBits, List.foldr_nil, List.flatMap_nil, setFn, writeFuncs, setFuncs_nil]
    rw [show s.fnmask ||| 0 = s.fnmask from BitVec.or_zero]
  | cons i l ih =>
    have hrest := ih (fun j hj => hl j (List.mem_cons_of_mem _ hj))
      (s := setFn (patternBit i) (writeFuncs (patternWrites s i) s)) hs
    rw [execAll_cons (exec_placementCommand (hl i List.mem_cons_self) hs), hrest, patternWrites_setFn_writeFuncs,
      setFn_writeFuncs_setFn_writeFuncs, List.flatMap_cons]
    rfl

theorem patternBit_or_patternBits {i : Instr} {l : List Instr} (hi : i ∈ l) :
    patternBit i ||| patternBits l = patternBits l := by
  induction l with
  | nil => cases hi
  | cons j l ih =>
    show patternBit i ||| (patternBit j ||| patternBits l) = patternBit j ||| patternBits l
    rcases List.mem_cons.mp hi with rfl | hmem
    · rw [← BitVec.or_assoc, BitVec.or_self]
    · rw [← BitVec.or_assoc, BitVec.or_comm (patternBit i), BitVec.or_assoc, ih hmem]

/-- With each of the four in it, a sequence sets all bits. -/
theorem patternBits_of_all {l : List Instr} (h : ∀ i ∈ placementCommands, i ∈ l) (b : BitVec 4) :
    b ||| patternBits l = 0b1111#4 := by
  have hall : fnAll ||| patternBits l = patternBits l := by
    have hmerge : fnAll = patternBit .mxFinder ||| (patternBit .mxTiming ||| (patternBit .mxAlign |||
        patternBit .mxReserve)) := by decide
    rw [hmerge, BitVec.or_assoc, BitVec.or_assoc, BitVec.or_assoc]
    rw [patternBit_or_patternBits (h _ (by decide)), patternBit_or_patternBits (h _ (by decide)),
      patternBit_or_patternBits (h _ (by decide)), patternBit_or_patternBits (h _ (by decide))]
  rw [← hall, ← BitVec.or_assoc]
  show b ||| BitVec.allOnes 4 ||| _ = BitVec.allOnes 4
  rw [BitVec.or_allOnes, BitVec.allOnes_or]

/-! The last write at a module, of lists of writes that agree. -/

section
variable {α : Type} {l : List α} {f : α → List FuncWrite} {r c : Nat}

theorem lastWrite_flatMap_eq_none (h : ∀ a ∈ l, lastWrite (f a) r c = none) : lastWrite (l.flatMap f) r c = none := by
  induction l with
  | nil => rfl
  | cons a l ih =>
    rw [List.flatMap_cons, lastWrite_append, ih fun b hb => h b (List.mem_cons_of_mem _ hb), h a List.mem_cons_self]
    rfl

theorem lastWrite_flatMap_eq_some {d : Bool} (hex : ∃ a ∈ l, lastWrite (f a) r c = some d)
    (hall : ∀ a ∈ l, ∀ d', lastWrite (f a) r c = some d' → d' = d) : lastWrite (l.flatMap f) r c = some d := by
  induction l with
  | nil => obtain ⟨a, ha, -⟩ := hex; cases ha
  | cons a l ih =>
    have hrest := fun b hb => hall b (List.mem_cons_of_mem a hb)
    rw [List.flatMap_cons, lastWrite_append]
    by_cases htail : ∃ b ∈ l, lastWrite (f b) r c = some d
    · rw [ih htail hrest, Option.some_or]
    · have hnone : ∀ b ∈ l, lastWrite (f b) r c = none := fun b hb => by
        cases hval : lastWrite (f b) r c with
        | none => rfl
        | some d' => exact absurd ⟨b, hb, hrest b hb d' hval ▸ hval⟩ htail
      obtain ⟨b, hb, hval⟩ := hex
      rcases List.mem_cons.mp hb with rfl | hmem
      · rw [lastWrite_flatMap_eq_none hnone, hval, Option.none_or]
      · exact absurd ⟨b, hmem, hval⟩ htail

/-- Of lists that agree at a module, neither the order nor repetition shows there. -/
theorem lastWrite_flatMap_congr {l' : List α} (hsub : ∀ a ∈ l, a ∈ l') (hsub' : ∀ a ∈ l', a ∈ l)
    (hagree : ∀ a ∈ l, ∀ b ∈ l, ∀ d d', lastWrite (f a) r c = some d → lastWrite (f b) r c = some d' → d' = d) :
    lastWrite (l.flatMap f) r c = lastWrite (l'.flatMap f) r c := by
  by_cases hex : ∃ a ∈ l, ∃ d, lastWrite (f a) r c = some d
  · obtain ⟨a, ha, d, hd⟩ := hex
    rw [lastWrite_flatMap_eq_some ⟨a, ha, hd⟩ fun b hb d' => hagree a ha b hb d d' hd,
      lastWrite_flatMap_eq_some ⟨a, hsub a ha, hd⟩ fun b hb d' => hagree a ha b (hsub' b hb) d d' hd]
  · have hnone : ∀ a ∈ l, lastWrite (f a) r c = none := fun a ha => by
      cases hval : lastWrite (f a) r c with
      | none => rfl
      | some d => exact absurd ⟨a, ha, d, hval⟩ hex
    rw [lastWrite_flatMap_eq_none hnone, lastWrite_flatMap_eq_none fun a ha => hnone a (hsub' a ha)]

end

/-! Where the four patterns write, with the default tables. -/

/-- A coordinate of the default alignment lists: the first, the last, or an even one well between. -/
def AlignCoordinate (size x : Nat) : Prop := x = 6 ∨ x + 7 = size ∨ (16 ≤ x ∧ x + 16 ≤ size ∧ x % 2 = 0)

theorem alignAt_defaultParams {v : Nat} (h1 : 1 ≤ v) (h40 : v ≤ 40) :
    alignListWf v (alignAt defaultParams v) = true ∧ ∀ x ∈ alignAt defaultParams v, AlignCoordinate (17 + 4 * v) x := by
  have hall : ∀ u < 41, 1 ≤ u → alignListWf u (alignAt defaultParams u) = true ∧
      ∀ x ∈ alignAt defaultParams u, x = 6 ∨ x + 7 = 17 + 4 * u ∨ (16 ≤ x ∧ x + 16 ≤ 17 + 4 * u ∧ x % 2 = 0) := by
    decide +kernel
  exact hall v (by omega) h1

/-- Three corners of the grid (R273). -/
def CornerRegion (size r c : Nat) : Prop := (r < 8 ∧ c < 8) ∨ (r < 8 ∧ size - 8 ≤ c) ∨ (size - 8 ≤ r ∧ c < 8)

theorem cornerRegion_of_finderValue {size r c : Nat} {d : Bool} (h : finderValue size r c = some d) :
    CornerRegion size r c := by
  unfold finderValue at h
  split at h
  · next h1 => exact .inl h1
  split at h
  · next h2 => exact .inr (.inl ⟨h2.1, h2.2.1⟩)
  split at h
  · next h3 => exact .inr (.inr ⟨h3.1, h3.2.2⟩)
  · cases h

/-- The reserved cells and the dark module: beside row and column 8 but for the timing pattern's, and the blocks of the
version word (R276). -/
def ReserveRegion (size r c : Nat) : Prop :=
  (c = 8 ∧ (r ≤ 8 ∧ r ≠ 6 ∨ size - 8 ≤ r)) ∨ (r = 8 ∧ (c ≤ 8 ∧ c ≠ 6 ∨ size - 8 ≤ c)) ∨
    (r < 6 ∧ size - 11 ≤ c ∧ c < size - 8) ∨ (c < 6 ∧ size - 11 ≤ r ∧ r < size - 8)

theorem reserveRegion_of_isReserved {ver size r c : Nat} (h : 21 ≤ size) (hr : IsReserved ver size r c) :
    ReserveRegion size r c := by
  rcases hr with hformat | ⟨-, i, hi, hversion⟩
  · simp only [formatCopyA, formatCopyB, List.mem_append, List.mem_cons, List.not_mem_nil, or_false,
      Prod.mk.injEq] at hformat
    unfold ReserveRegion
    omega
  · simp only [versionCells, List.mem_cons, List.not_mem_nil, or_false, Prod.mk.injEq] at hversion
    unfold ReserveRegion
    omega


theorem reserveRegion_of_mem {ver size r c : Nat} (h : 21 ≤ size) {d : Bool} (hmem : (r, c, d) ∈ reserveWrites ver size) :
    ReserveRegion size r c := by
  rcases (mem_reserveWrites h).mp hmem with ⟨⟨rfl, rfl⟩, -⟩ | ⟨hres, -⟩
  · exact .inl ⟨rfl, .inr (Nat.le_refl _)⟩
  · exact reserveRegion_of_isReserved h hres

/-- Row and column 6 between the corners, dark at even indices (R274). -/
def TimingPlace (size r c : Nat) (d : Bool) : Prop :=
  (r = 6 ∧ 8 ≤ c ∧ c + 9 ≤ size ∧ d = decide (c % 2 = 0)) ∨ (c = 6 ∧ 8 ≤ r ∧ r + 9 ≤ size ∧ d = decide (r % 2 = 0))

/-- Around a pair of alignment coordinates that is no finder's (R275). -/
def AlignPlace (size r c : Nat) (d : Bool) : Prop :=
  ∃ cr cc, AlignCoordinate size cr ∧ AlignCoordinate size cc ∧ ¬atFinder size cr cc ∧ absDiff r cr ≤ 2 ∧
    absDiff c cc ≤ 2 ∧ d = decide (max (absDiff r cr) (absDiff c cc) ≠ 1)

/-- Where a placement command writes, and what: nothing is said of the values of the finder and the reserved cells. -/
def PatternPlace (size : Nat) (i : Instr) (r c : Nat) (d : Bool) : Prop :=
  match i with
  | .mxFinder => CornerRegion size r c
  | .mxTiming => TimingPlace size r c d
  | .mxAlign => AlignPlace size r c d
  | _ => ReserveRegion size r c

theorem mem_of_lastWrite {ws : List FuncWrite} {r c : Nat} {d : Bool} (h : lastWrite ws r c = some d) :
    (r, c, d) ∈ ws := by
  induction ws with
  | nil => cases h
  | cons w ws ih =>
    rw [← List.singleton_append, lastWrite_append] at h
    rcases Option.or_eq_some_iff.mp h with h | ⟨-, h⟩
    · exact List.mem_cons_of_mem _ (ih h)
    · simp only [lastWrite, List.foldl_cons, List.foldl_nil] at h
      split at h
      · next hat =>
        obtain rfl := Option.some.inj h
        rw [hat.1, hat.2]
        exact List.mem_cons_self
      · cases h

/-- A pattern's last write at a module is where and what the pattern says. -/
theorem patternPlace_of_lastWrite {s : State} (h1 : 1 ≤ s.ver.toNat) (h40 : s.ver.toNat ≤ 40)
    (hparams : s.params = defaultParams) {i : Instr} (hi : i ∈ placementCommands) {r c : Nat} {d : Bool}
    (h : lastWrite (patternWrites s i) r c = some d) : PatternPlace s.size i r c d := by
  have hsize := State.le_size h1
  simp only [placementCommands, List.mem_cons, List.not_mem_nil, or_false] at hi
  rcases hi with rfl | rfl | rfl | rfl
  · rw [patternWrites, lastWrite_finderWrites hsize] at h
    exact cornerRegion_of_finderValue h
  · exact mem_timingWrites.mp (mem_of_lastWrite h)
  · obtain ⟨hwf, hcoord⟩ := alignAt_defaultParams h1 h40
    rw [← hparams] at hwf hcoord
    rw [← size_eq h1] at hcoord
    obtain ⟨cr, hcr, cc, hcc, hplace⟩ := (mem_alignWrites hwf).mp (mem_of_lastWrite h)
    exact ⟨cr, cc, hcoord cr hcr, hcoord cc hcc, hplace⟩
  · exact reserveRegion_of_mem hsize (mem_of_lastWrite h)

/-! Two patterns do not meet, but for timing and alignment, which agree. -/

section
variable {size r c : Nat} {d d' : Bool}

theorem not_corner_of_timing (ht : TimingPlace size r c d) : ¬CornerRegion size r c := by
  unfold TimingPlace at ht
  unfold CornerRegion
  omega

theorem not_corner_of_align (h : 21 ≤ size) (ha : AlignPlace size r c d) : ¬CornerRegion size r c := by
  obtain ⟨cr, cc, hcr, hcc, hat, hr, hc, -⟩ := ha
  unfold AlignCoordinate at hcr hcc
  unfold atFinder at hat
  unfold absDiff at hr hc
  unfold CornerRegion
  omega

theorem not_corner_of_reserve (h : 21 ≤ size) (hr : ReserveRegion size r c) : ¬CornerRegion size r c := by
  unfold ReserveRegion at hr
  unfold CornerRegion
  omega

theorem not_timing_of_reserve (h : 21 ≤ size) (hr : ReserveRegion size r c) : ¬TimingPlace size r c d := by
  unfold ReserveRegion at hr
  unfold TimingPlace
  omega

theorem not_align_of_reserve (h : 21 ≤ size) (hres : ReserveRegion size r c) : ¬AlignPlace size r c d := by
  rintro ⟨cr, cc, hcr, hcc, hat, hr, hc, -⟩
  unfold ReserveRegion at hres
  unfold AlignCoordinate at hcr hcc
  unfold atFinder at hat
  unfold absDiff at hr hc
  omega

/-- On row and column 6 an alignment pattern is dark at even indices, as its centre's index is even. -/
theorem timing_eq_align (hodd : size % 2 = 1) (ht : TimingPlace size r c d) (ha : AlignPlace size r c d') : d' = d := by
  obtain ⟨cr, cc, hcr, hcc, hat, hr, hc, rfl⟩ := ha
  unfold AlignCoordinate at hcr hcc
  unfold atFinder at hat
  unfold absDiff at hr hc ⊢
  rcases ht with ⟨hrow, h8, h9, rfl⟩ | ⟨hcol, h8, h9, rfl⟩
  · rw [decide_eq_decide]
    omega
  · rw [decide_eq_decide]
    omega

/-- Where two placement commands write one module, they write the same. -/
theorem patternPlace_agree (h : 21 ≤ size) (hodd : size % 2 = 1) {i j : Instr} (hi : i ∈ placementCommands)
    (hj : j ∈ placementCommands) (hne : i ≠ j) (hp : PatternPlace size i r c d) (hp' : PatternPlace size j r c d') :
    d' = d := by
  simp only [placementCommands, List.mem_cons, List.not_mem_nil, or_false] at hi hj
  rcases hi with rfl | rfl | rfl | rfl
  · rcases hj with rfl | rfl | rfl | rfl
    · exact absurd rfl hne
    · exact absurd hp (not_corner_of_timing hp')
    · exact absurd hp (not_corner_of_align h hp')
    · exact absurd hp (not_corner_of_reserve h hp')
  · rcases hj with rfl | rfl | rfl | rfl
    · exact absurd hp' (not_corner_of_timing hp)
    · exact absurd rfl hne
    · exact timing_eq_align hodd hp hp'
    · exact absurd hp (not_timing_of_reserve h hp')
  · rcases hj with rfl | rfl | rfl | rfl
    · exact absurd hp' (not_corner_of_align h hp)
    · exact (timing_eq_align hodd hp' hp).symm
    · exact absurd rfl hne
    · exact absurd hp (not_align_of_reserve h hp')
  · rcases hj with rfl | rfl | rfl | rfl
    · exact absurd hp' (not_corner_of_reserve h hp)
    · exact absurd hp' (not_timing_of_reserve h hp)
    · exact absurd hp' (not_align_of_reserve h hp)
    · exact absurd rfl hne

end

/-- Settles O47: a sequence is one list of writes, and patterns that write one module agree there, so neither the order
nor repetition shows. -/
theorem placementOrder : Obligations.PlacementOrder := by
  unfold Obligations.PlacementOrder
  intro s l hs h1 h40 hparams hl hall
  refine ⟨mxFuncOp s, _, exec_mxFunc hs, execAll_placementCommands hl hs, patternBits_of_all hall _, fun r c => ?_⟩
  have hfour : mxFuncOp s = setFn (patternBits placementCommands)
      (writeFuncs (placementCommands.flatMap (patternWrites s)) s) :=
    Host.Outcome.next.inj ((execAll_placement hs).symm.trans (execAll_placementCommands (fun _ hi => hi) hs))
  have hodd : s.size % 2 = 1 := by rw [size_eq h1]; omega
  have hagree : ∀ i ∈ l, ∀ j ∈ l, ∀ d d', lastWrite (patternWrites s i) r c = some d →
      lastWrite (patternWrites s j) r c = some d' → d' = d := by
    intro i hi j hj d d' hd hd'
    by_cases hij : i = j
    · subst hij
      exact Option.some.inj (hd'.symm.trans hd)
    · exact patternPlace_agree (State.le_size h1) hodd (hl i hi) (hl j hj) hij
        (patternPlace_of_lastWrite h1 h40 hparams (hl i hi) hd) (patternPlace_of_lastWrite h1 h40 hparams (hl j hj) hd')
  rw [hfour, moduleAt_setFn_writeFuncs, moduleAt_setFn_writeFuncs,
    lastWrite_flatMap_congr (l' := placementCommands) hl hall hagree]

end Sys2Proof.Machine
end

section
/-! SUPPORT. The moves of the phase (R47), and the invariants of the syndrome calculator (R32) and of the packer (R23,
R26, R28). -/
namespace Sys2Proof.Machine

/-! The pipeline. -/

/-- A command that raises nothing leaves the phase, or moves it along its arrow (R47). -/
inductive PhaseMove : Instr → Phase → Phase → Prop
  | stay (i : Instr) (p : Phase) (h : arrow i = none) : PhaseMove i p p
  | cfgSym (ver ecl me : Byte) : PhaseMove (.cfgSym ver ecl me) .idle .configured
  | bsHead (count : BitVec 16) : PhaseMove (.bsHead count) .configured .payload
  | bsTerm : PhaseMove .bsTerm .payload .terminated
  | bsAlign : PhaseMove .bsAlign .terminated .aligned
  | bsPad : PhaseMove .bsPad .aligned .packed
  | bsFinish : PhaseMove .bsFinish .payload .packed
  | eccRun : PhaseMove .eccRun .packed .coded
  | mxInit : PhaseMove .mxInit .coded .matrix
  | plStart : PhaseMove .plStart .matrix .placing
  | plBit : PhaseMove .plBit .placing .placed
  | plRunMatrix : PhaseMove .plRun .matrix .placed
  | plRun : PhaseMove .plRun .placing .placed
  | mkSelect : PhaseMove .mkSelect .placed .selected
  | mdVer : PhaseMove .mdVer .selected .done

theorem phaseMove_of_body {i : Instr} {s t : State} (hi : i ≠ .sreset) (hl : legalIn i s.phase = true)
    (hb : bodyOf i s = .ok t) : PhaseMove i s.phase t.phase := by
  have move {p q : Phase} (hs : s.phase = p) (ht : t.phase = q) (h : PhaseMove i p q) : PhaseMove i s.phase t.phase :=
    hs ▸ ht ▸ h
  by_cases hbit : i = .plBit
  · subst hbit
    have hs : s.phase = .placing := by simpa [legalIn] using hl
    have ht : t.phase = if t.bitpos.toNat = t.slen then .placed else .placing := plBitBody_phase hs t hb
    split at ht
    · exact move hs ht .plBit
    · exact move hs ht (.stay _ _ rfl)
  · have ht := bodyOf_phase hbit hl t hb
    cases i
    case sreset => exact absurd rfl hi
    case plBit => exact absurd rfl hbit
    case cfgSym => exact move (of_decide_eq_true hl) ht (.cfgSym ..)
    case bsHead => exact move (of_decide_eq_true hl) ht (.bsHead _)
    case bsTerm => exact move (of_decide_eq_true hl) ht .bsTerm
    case bsAlign => exact move (of_decide_eq_true hl) ht .bsAlign
    case bsPad => exact move (of_decide_eq_true hl) ht .bsPad
    case bsFinish => exact move (of_decide_eq_true hl) ht .bsFinish
    case eccRun => exact move (of_decide_eq_true hl) ht .eccRun
    case mxInit => exact move (of_decide_eq_true hl) ht .mxInit
    case plStart => exact move (of_decide_eq_true hl) ht .plStart
    case mkSelect => exact move (of_decide_eq_true hl) ht .mkSelect
    case mdVer => exact move (of_decide_eq_true hl) ht .mdVer
    case plRun =>
      rcases (by simpa [legalIn] using hl : s.phase = .matrix ∨ s.phase = .placing) with hs | hs
      · exact move hs ht .plRunMatrix
      · exact move hs ht .plRun
    all_goals exact move rfl ht (.stay _ _ rfl)

/-- What the configured symbol fixes: no command but `CFG_SYM` changes it. -/
theorem withWritten_derived {i : Instr} (h : mnemonic i ∉ ["CFG_SYM"]) (s u : State) :
    (withWritten i s u).vspec = s.vspec ∧ (withWritten i s u).size = s.size ∧
      (withWritten i s u).capbits = s.capbits ∧ (withWritten i s u).slen = s.slen := by
  cases i
  case cfgSym => exact absurd (by simp [mnemonic]) h
  all_goals exact ⟨rfl, rfl, rfl, rfl⟩

/-! The tables, where the version is one. -/

/-- The record of a configured symbol is well-formed (R85). -/
theorem vspecFacts_of_blocksWf {s : State} (hp : s.params.blocksWf = true) (h1 : 1 ≤ s.ver.toNat)
    (h40 : s.ver.toNat ≤ 40) : VSpecFacts s.vspec := by
  have hcode : s.ecl.code < 4 := by cases s.ecl <;> decide
  simp only [Params.blocksWf, List.all_eq_true, Bool.and_eq_true, List.mem_range'_1, List.mem_range] at hp
  exact vspecFacts_of_wf ((hp s.ver.toNat ⟨h1, by omega⟩).1 s.ecl.code hcode).1

theorem alignListWf_of_blocksWf {s : State} (hp : s.params.blocksWf = true) (h1 : 1 ≤ s.ver.toNat)
    (h40 : s.ver.toNat ≤ 40) : alignListWf s.ver.toNat (alignAt s.params s.ver.toNat) = true := by
  simp only [Params.blocksWf, List.all_eq_true, Bool.and_eq_true, List.mem_range'_1, List.mem_range] at hp
  exact (hp s.ver.toNat ⟨h1, by omega⟩).2

theorem capbits_le {s : State} (hx : VSpecFacts s.vspec) : s.capbits ≤ 23648 :=
  Nat.mul_le_mul_left 8 hx.dataBytes

/-! The syndrome calculator. -/

theorem length_synHorner {n : Nat} (hn : n ≤ 30) (b : Byte) {syn : List Byte} (h : syn.length = 30) :
    (synHorner n b syn).length = 30 := by
  induction n with
  | zero => exact h
  | succ n ih =>
    rw [synHorner, List.range_succ, List.foldl_append, List.foldl_cons, List.foldl_nil, ← synHorner, length_writeAt,
      ih (by omega)]
    omega

theorem synCoherent_synClrBody (r : Byte) (s : State) : Ensures (synClrBody r s) SynCoherent := by
  refine .bind fun _ hr => .ok ⟨?_, fun _ => List.length_replicate⟩
  rw [require_eq_ok] at hr
  show (BitVec.ofNat 5 r.toNat).toNat ≤ 30
  rw [BitVec.toNat_ofNat]
  exact Nat.le_trans (Nat.mod_le _ _) hr.2

theorem synCoherent_synInBody (b : Byte) {s : State} (hs : SynCoherent s) : Ensures (synInBody b s) SynCoherent := by
  refine .bind fun _ hr => .ok ⟨hs.1, fun _ => ?_⟩
  rw [require_eq_ok] at hr
  exact length_synHorner hs.1 b (hs.2 hr)

theorem synCoherent_bodyOf {i : Instr} {s t : State} (hi : i ≠ .sreset) (hb : bodyOf i s = .ok t)
    (hs : SynCoherent s) : SynCoherent t := by
  by_cases hsyn : mnemonic i ∈ ["SYN_CLR", "SYN_IN"]
  · cases i
    case synClr r => exact synCoherent_synClrBody r s t hb
    case synIn b => exact synCoherent_synInBody b hs t hb
    all_goals exact absurd hsyn (by simp [mnemonic])
  · have hr := withWritten_synR (i := i) (fun h => hsyn (List.mem_cons.mpr (.inl (List.mem_singleton.mp h)))) s t
    have hl := withWritten_syn hsyn s t
    rw [bodyOf_writes hi s t hb]
    unfold SynCoherent at hs ⊢
    rwa [hr, hl]

/-! The packer: a stream within the capacity, as long as the bits written. -/

/-- The stream is exactly the written bits, within the capacity (R28). -/
def StreamFits (s : State) : Prop := s.bitbuf.length = s.bitlen.toNat ∧ s.bitlen.toNat ≤ s.capbits

section
variable {s : State} (hcap : s.capbits ≤ 23648) (hs : StreamFits s)
include hcap hs

theorem StreamFits.pushBits {bs : List Bool} (h : s.bitlen.toNat + bs.length ≤ s.capbits) :
    StreamFits (pushBits bs s) := by
  have hlen := toNat_bitlen_pushBits (bs := bs) (s := s) (by omega)
  refine ⟨?_, by rw [hlen]; exact h⟩
  rw [hlen, pushBits_bitbuf, ← hs.1, writeFrom_length, List.length_append]

theorem StreamFits.appendField (v n : Nat) : Ensures (appendField v n s) fun t => StreamFits t ∧ t.capbits = s.capbits := by
  intro t ht
  rcases appendField_cases ht with ⟨hfit, h⟩ | ⟨-, h⟩
  · cases h
    exact ⟨hs.pushBits hcap (by rwa [length_bitsMSB]), rfl⟩
  · cases h

theorem StreamFits.eciHeader : Ensures (eciHeader s) fun t => StreamFits t ∧ t.capbits = s.capbits := by
  unfold Machine.eciHeader
  split
  · refine .bind fun u hu => ?_
    obtain ⟨hfits, hsame⟩ := hs.appendField hcap _ _ u hu
    exact (hfits.appendField (hsame ▸ hcap) _ _).mono fun t ht => ⟨ht.1, ht.2.trans hsame⟩
  · exact .ok ⟨hs, rfl⟩

theorem StreamFits.bsHeadBody (count : BitVec 16) : Ensures (bsHeadBody count s) StreamFits := by
  refine .bind fun _ _ => .bind fun _ _ => .bind fun u hu => .bind fun v hv => .bind fun w hw => .ok ?_
  obtain ⟨hfu, hcu⟩ := hs.eciHeader hcap u hu
  obtain ⟨hfv, hcv⟩ := hfu.appendField (hcu ▸ hcap) _ _ v hv
  exact (hfv.appendField (hcv ▸ hcu ▸ hcap) _ _ w hw).1

theorem StreamFits.payload {i : Instr} (h : isPayload i = true) : Ensures (bodyOf i s) StreamFits := by
  obtain ⟨m, charErr, value, n, chars, -, hb⟩ := exists_packPayload h
  rw [hb]
  exact .bind fun _ _ => .bind fun v _ => .bind fun u hu => .ok (hs.appendField hcap v n u hu).1

theorem StreamFits.bsTermBody : Ensures (bsTermBody s) fun t => StreamFits t ∧ t.capbits = s.capbits := by
  by_cases hc : s.chars = s.decl
  · rw [bsTermBody_of_count_eq hc]
    exact .ok ⟨hs.pushBits hcap (bitlen_add_termBits_le hs.2), rfl⟩
  · rw [bsTermBody_of_count_ne hc]
    exact .error

/-- Rounding up to a byte stays within the capacity, a whole number of bytes (R209). -/
theorem StreamFits.bsAlignBody : Ensures (bsAlignBody s) fun t =>
    (StreamFits t ∧ t.capbits = s.capbits) ∧ t.bitlen.toNat % 8 = 0 := by
  have hwhole := capbits_mod s
  have hgap := alignGap_lt s.bitlen.toNat
  have hround := add_alignGap_mod s.bitlen.toNat
  have hle := hs.2
  have hfit : s.bitlen.toNat + (List.replicate (alignGap s.bitlen.toNat) false).length ≤ s.capbits := by
    rw [List.length_replicate]
    omega
  refine .ok ⟨⟨hs.pushBits hcap hfit, rfl⟩, ?_⟩
  show (Machine.pushBits _ s).bitlen.toNat % 8 = 0
  rw [toNat_bitlen_pushBits (by omega), List.length_replicate]
  exact hround

theorem StreamFits.padLoop (fuel i : Nat) : Ensures (padLoop fuel i s) StreamFits := by
  induction fuel generalizing i s with
  | zero => exact .ok hs
  | succ fuel ih =>
    unfold Machine.padLoop
    split
    · refine .bind fun u hu => ?_
      obtain ⟨hfits, hsame⟩ := hs.appendField hcap _ _ u hu
      exact ih (hsame ▸ hcap) hfits _
    · exact .ok hs

theorem StreamFits.bsPadBody : Ensures (bsPadBody s) fun t => StreamFits t ∧ t.bitlen.toNat = t.capbits :=
  .bind fun u hu => .bind fun _ hfull => .ok ⟨hs.padLoop hcap _ _ u hu, require_eq_ok.mp hfull⟩

theorem StreamFits.bsFinishBody : Ensures (bsFinishBody s) fun t => StreamFits t ∧ t.bitlen.toNat = t.capbits := by
  refine .bind fun u hu => .bind fun v hv => ?_
  obtain ⟨hfu, hcu⟩ := hs.bsTermBody hcap u hu
  obtain ⟨⟨hfv, hcv⟩, -⟩ := hfu.bsAlignBody (hcu ▸ hcap) v hv
  exact hfv.bsPadBody (hcv ▸ hcu ▸ hcap)

end

/-- The packer's invariant of a configured symbol. -/
theorem PackerCoherent.of_fits {t : State} (hver : 1 ≤ t.ver.toNat ∧ t.ver.toNat ≤ 40) (hfits : StreamFits t)
    (hidle : t.phase ≠ .idle) (haligned : t.phase = .aligned → t.bitlen.toNat % 8 = 0)
    (hpacked : Phase.packed.code ≤ t.phase.code → t.bitlen.toNat = t.capbits) : PackerCoherent t :=
  ⟨hver.2, hfits.1, fun h => absurd h hidle, fun _ => ⟨hver.1, hver.2, hfits.2⟩, haligned, fun _ => hpacked⟩

theorem PackerCoherent.streamFits {s : State} (h : PackerCoherent s) (hs : s.active) :
    (1 ≤ s.ver.toNat ∧ s.ver.toNat ≤ 40) ∧ StreamFits s := by
  obtain ⟨h40, hlen, -, hactive, -, -⟩ := h
  obtain ⟨h1, -, hle⟩ := hactive hs
  exact ⟨⟨h1, h40⟩, hlen, hle⟩

/-- What does not touch the stream or the symbol keeps the invariant, where the phase stays or moves on from a full
stream. -/
theorem PackerCoherent.of_same {s t : State} (hs : PackerCoherent s) (hver : t.ver = s.ver)
    (hlen : t.bitlen = s.bitlen) (hbuf : t.bitbuf = s.bitbuf) (hcap : t.capbits = s.capbits)
    (hphase : t.phase = s.phase ∨ (s.active ∧ Phase.packed.code ≤ s.phase.code ∧ Phase.packed.code ≤ t.phase.code)) :
    PackerCoherent t := by
  rcases hphase with hphase | ⟨hact, hp, hp'⟩
  · unfold PackerCoherent State.active at hs ⊢
    rwa [hver, hlen, hbuf, hcap, hphase]
  · obtain ⟨hv, hfits⟩ := hs.streamFits hact
    have hfull := hs.2.2.2.2.2 hact hp
    have hlate : ∀ p : Phase, p = t.phase → p.code < Phase.packed.code → False := fun p h hlt => by
      subst h; omega
    refine .of_fits (hver ▸ hv) ?_ (fun h => hlate _ h.symm (by decide)) (fun h => (hlate _ h.symm (by decide)).elim)
      fun _ => by rw [hlen, hcap, hfull]
    unfold StreamFits
    rw [hlen, hbuf, hcap]
    exact hfits

theorem packerCoherent_cfgSymBody (ver ecl me : Byte) {s : State} (hidle : s.phase = .idle) (hs : PackerCoherent s) :
    Ensures (cfgSymBody ver ecl me s) PackerCoherent := by
  obtain ⟨-, hlen, hempty, -⟩ := hs
  refine .bind fun _ hver => .bind fun _ _ => .ok ?_
  rw [require_eq_ok] at hver
  have h6 : (BitVec.ofNat 6 ver.toNat).toNat = ver.toNat := by rw [BitVec.toNat_ofNat, Nat.mod_eq_of_lt (by omega)]
  have hbuf : s.bitbuf.length = 0 := by rw [hlen, (hempty hidle).1]; rfl
  exact .of_fits (by rw [h6]; exact hver) ⟨hbuf, Nat.zero_le _⟩ Phase.noConfusion Phase.noConfusion
    fun h => absurd h (by decide : ¬Phase.packed.code ≤ Phase.configured.code)

/-- The commands that append to the stream. -/
def streamCommands : List String := ["BS_HEAD", "BS_NUM3", "BS_NUM2", "BS_NUM1", "BS_AN2", "BS_AN1", "BS_BYTE",
  "BS_KANJI", "BS_TERM", "BS_ALIGN", "BS_PAD", "BS_FINISH"]

/-- They append within the capacity; what the phase asks of the stream afterwards, the last of them give. -/
theorem streamFits_bodyOf {i : Instr} (hi : mnemonic i ∈ streamCommands) {s : State} (hcap : s.capbits ≤ 23648)
    (hs : StreamFits s) : Ensures (bodyOf i s) fun t => StreamFits t ∧
      (arrow i = some .aligned → t.bitlen.toNat % 8 = 0) ∧ (arrow i = some .packed → t.bitlen.toNat = t.capbits) := by
  cases i
  case bsHead => exact (hs.bsHeadBody hcap _).mono fun t ht => ⟨ht, nofun, nofun⟩
  case bsNum3 | bsNum2 | bsNum1 | bsAn2 | bsAn1 | bsByte | bsKanji =>
    exact (hs.payload hcap rfl).mono fun t ht => ⟨ht, nofun, nofun⟩
  case bsTerm => exact (hs.bsTermBody hcap).mono fun t ht => ⟨ht.1, nofun, nofun⟩
  case bsAlign => exact (hs.bsAlignBody hcap).mono fun t ht => ⟨ht.1.1, fun _ => ht.2, nofun⟩
  case bsPad => exact (hs.bsPadBody hcap).mono fun t ht => ⟨ht.1, nofun, fun _ => ht.2⟩
  case bsFinish => exact (hs.bsFinishBody hcap).mono fun t ht => ⟨ht.1, nofun, fun _ => ht.2⟩
  all_goals exact absurd hi (by simp [mnemonic, streamCommands])

/-- The phases of these commands lie before `PACKED`, and they lead no further. -/
theorem streamCommand_phases {i : Instr} (hi : mnemonic i ∈ streamCommands) {p q : Phase} (hl : legalIn i p = true)
    (h : PhaseMove i p q) : (1 ≤ p.code ∧ p.code ≤ 11) ∧ q ≠ .idle ∧ (q = .aligned → arrow i = some .aligned) ∧
      (Phase.packed.code ≤ q.code → arrow i = some .packed) := by
  cases h
  case stay hn =>
    cases i
    case bsNum3 | bsNum2 | bsNum1 | bsAn2 | bsAn1 | bsByte | bsKanji =>
      rw [of_decide_eq_true hl]
      exact ⟨by decide, by decide, nofun, fun h => absurd h (by decide)⟩
    case bsHead | bsTerm | bsAlign | bsPad | bsFinish => cases hn
    all_goals exact absurd hi (by simp [mnemonic, streamCommands])
  case bsHead | bsTerm => exact ⟨by decide, by decide, nofun, fun h => absurd h (by decide)⟩
  case bsAlign => exact ⟨by decide, by decide, fun _ => rfl, fun h => absurd h (by decide)⟩
  case bsPad | bsFinish => exact ⟨by decide, by decide, nofun, fun _ => rfl⟩
  all_goals exact absurd hi (by simp [mnemonic, streamCommands])

/-- Every later move is one from a full stream on. -/
theorem phaseMove_of_packed {i : Instr} {p q : Phase} (h : PhaseMove i p q) (hcfg : mnemonic i ∉ ["CFG_SYM"])
    (hstream : mnemonic i ∉ streamCommands) :
    q = p ∨ (1 ≤ p.code ∧ p.code ≤ 11) ∧ Phase.packed.code ≤ p.code ∧ Phase.packed.code ≤ q.code := by
  cases h
  case stay => exact .inl rfl
  case cfgSym => exact absurd (by simp [mnemonic]) hcfg
  case bsHead | bsTerm | bsAlign | bsPad | bsFinish => exact absurd (by simp [mnemonic, streamCommands]) hstream
  all_goals exact .inr (by decide)

theorem packerCoherent_bodyOf {i : Instr} {s t : State} (hi : i ≠ .sreset) (hl : legalIn i s.phase = true)
    (hb : bodyOf i s = .ok t) (hp : s.params.blocksWf = true) (hs : PackerCoherent s) : PackerCoherent t := by
  have hmove := phaseMove_of_body hi hl hb
  by_cases hcfg : mnemonic i ∈ ["CFG_SYM"]
  · cases i
    case cfgSym ver ecl me => exact packerCoherent_cfgSymBody ver ecl me (of_decide_eq_true hl) hs t hb
    all_goals exact absurd hcfg (by simp [mnemonic])
  have hw := bodyOf_writes hi s t hb
  have hver : t.ver = s.ver := by rw [hw]; exact (withWritten_symbol hcfg s t).1
  have hcap : t.capbits = s.capbits := by rw [hw]; exact (withWritten_derived hcfg s t).2.2.1
  by_cases hstream : mnemonic i ∈ streamCommands
  · obtain ⟨hact, hidle, haligned, hpacked⟩ := streamCommand_phases hstream hl hmove
    obtain ⟨hv, hfits⟩ := hs.streamFits hact
    obtain ⟨hfits', h8, hfull⟩ := streamFits_bodyOf hstream (capbits_le (vspecFacts_of_blocksWf hp hv.1 hv.2)) hfits t hb
    exact .of_fits (hver ▸ hv) hfits' hidle (fun h => h8 (haligned h)) fun h => hfull (hpacked h)
  · have hlen : t.bitlen = s.bitlen := by
      rw [hw]; exact withWritten_bitlen (fun h => (List.mem_cons.mp h).elim
        (fun h => hcfg (List.mem_singleton.mpr h)) hstream) s t
    have hbuf : t.bitbuf = s.bitbuf := by rw [hw]; exact withWritten_bitbuf hstream s t
    exact hs.of_same hver hlen hbuf hcap (phaseMove_of_packed hmove hcfg hstream)

end Sys2Proof.Machine
end

section
/-! SUPPORT. The invariants of the codeword memories (R33, R34) and of the grid (R35). -/
namespace Sys2Proof.Machine

/-! The codeword memories. -/

/-- After `n` blocks there are `n` rows of parity (R33). -/
theorem par_blocksCoded {s : State} (hpar : s.par = []) (hr : 0 < s.vspec.r) (n : Nat) :
    (blocksCoded s n).par.length = n ∧ ∀ row ∈ (blocksCoded s n).par, row.length = s.vspec.r := by
  induction n with
  | zero => rw [blocksCoded, hpar]; exact ⟨rfl, nofun⟩
  | succ n ih =>
    have hkept : (rsDivided (s.blockData n) s.vspec.r (blocksCoded s n)).par = (blocksCoded s n).par := by
      rw [rsDivided_frame]
    rw [blocksCoded, par_storeParity _ (hkept ▸ ih.1) hr, hkept, List.length_append, ih.1]
    refine ⟨rfl, fun row hrow => ?_⟩
    rcases List.mem_append.mp hrow with hold | hnew
    · exact ih.2 row hold
    · rw [List.mem_singleton.mp hnew, List.length_map, List.length_range]

theorem codeCoherent_eccCoded {s : State} (hx : VSpecFacts s.vspec) (hpar : s.par = []) (hcw : s.cw = []) :
    CodeCoherent (eccCoded s) := by
  have hvspec : (blocksCoded s s.vspec.nb).vspec = s.vspec :=
    ((blocksCoded_dividerOnly s s.vspec.nb).blockData_eq 0).1
  have hcw' : (blocksCoded s s.vspec.nb).cw = [] := by
    obtain ⟨_, _, _, _, _, _, h⟩ := blocksCoded_dividerOnly s s.vspec.nb
    rw [h]; exact hcw
  have htotal : (BitVec.ofNat 12 s.vspec.total).toNat = s.vspec.total := by
    have := hx.total_le
    rw [BitVec.toNat_ofNat, Nat.mod_eq_of_lt (by omega)]
  have hvspec' : (eccCoded s).vspec = s.vspec := hvspec
  have hlen : (eccCoded s).cw.length = s.vspec.total := by
    show (writeFrom Config.unwrittenCw (blocksCoded s s.vspec.nb).cw 0 _).length = _
    rw [hcw']
    exact (congrArg List.length (writeFrom_length Config.unwrittenCw _ [])).trans
      ((length_interleaved (hvspec.symm ▸ hx)).trans (by rw [hvspec]))
  refine ⟨fun h => absurd h (by exact Nat.lt_irrefl 6), fun _ _ => ?_⟩
  rw [hvspec']
  exact ⟨htotal, hlen, par_blocksCoded hpar (pos_of_mem_validR hx.count) _⟩

/-- What does not touch the two memories keeps the invariant, where the phase does not enter `CODED`. -/
theorem CodeCoherent.of_same {s t : State} (hs : CodeCoherent s)
    (hsame : t.par = s.par ∧ t.cw = s.cw ∧ t.cwlen = s.cwlen)
    (hphase : (s.phase.code < Phase.coded.code ∧ t.phase.code < Phase.coded.code) ∨
      (t.vspec = s.vspec ∧ (t.active → Phase.coded.code ≤ t.phase.code → s.active ∧ Phase.coded.code ≤ s.phase.code) ∧
        (t.phase.code < Phase.coded.code → s.phase.code < Phase.coded.code))) : CodeCoherent t := by
  obtain ⟨hpar, hcw, hcwlen⟩ := hsame
  unfold CodeCoherent at hs ⊢
  rw [hpar, hcw, hcwlen]
  rcases hphase with ⟨hp, hq⟩ | ⟨hvspec, hlate, hearly⟩
  · exact ⟨fun _ => hs.1 hp, fun _ h => absurd hq (Nat.not_lt.mpr h)⟩
  · rw [hvspec]
    exact ⟨fun h => hs.1 (hearly h), fun hact h => hs.2 (hlate hact h).1 (hlate hact h).2⟩

/-- Only `ECC_RUN` enters `CODED`. -/
theorem phaseMove_coded {i : Instr} {p q : Phase} (h : PhaseMove i p q) (hecc : mnemonic i ∉ ["ECC_RUN"]) :
    (p.code < Phase.coded.code ∧ q.code < Phase.coded.code) ∨ (mnemonic i ∉ ["CFG_SYM"] ∧
      (q = p ∨ ((1 ≤ p.code ∧ p.code ≤ 11) ∧ Phase.coded.code ≤ p.code ∧ Phase.coded.code ≤ q.code))) := by
  cases h
  case stay hn =>
    refine .inr ⟨fun hcfg => ?_, .inl rfl⟩
    cases i
    case cfgSym => cases hn
    all_goals exact absurd hcfg (by simp [mnemonic])
  case eccRun => exact absurd (by simp [mnemonic]) hecc
  case cfgSym | bsHead | bsTerm | bsAlign | bsPad | bsFinish => exact .inl (by decide)
  all_goals exact .inr ⟨by simp [mnemonic], .inr (by decide)⟩

theorem codeCoherent_bodyOf {i : Instr} {s t : State} (hi : i ≠ .sreset) (hl : legalIn i s.phase = true)
    (hb : bodyOf i s = .ok t) (hp : s.params.blocksWf = true) (hpacker : PackerCoherent s) (hs : CodeCoherent s) :
    CodeCoherent t := by
  by_cases hecc : mnemonic i ∈ ["ECC_RUN"]
  · cases i
    case eccRun =>
      have hphase : s.phase = .packed := of_decide_eq_true hl
      have hact : s.active := by unfold State.active; rw [hphase]; decide
      obtain ⟨hv, -⟩ := hpacker.streamFits hact
      have hx := vspecFacts_of_blocksWf hp hv.1 hv.2
      have hfull : s.bitlen.toNat = s.capbits := hpacker.2.2.2.2.2 hact (by rw [hphase])
      obtain ⟨hpar, hcw, -⟩ := hs.1 (by rw [hphase]; decide)
      obtain rfl := Except.ok.inj ((eccRunBody_eq hx hfull).symm.trans hb)
      exact codeCoherent_eccCoded hx hpar hcw
    all_goals exact absurd hecc (by simp [mnemonic])
  · have hw := bodyOf_writes hi s t hb
    refine hs.of_same (by rw [hw]; exact withWritten_codewords hecc s t) ?_
    refine (phaseMove_coded (phaseMove_of_body hi hl hb) hecc).imp_right fun ⟨hcfg, hmove⟩ => ⟨?_, ?_, ?_⟩
    · rw [hw]; exact (withWritten_derived hcfg s t).1
    · intro hact hq
      rcases hmove with hsame | ⟨hactive, hcoded, -⟩
      · unfold State.active at hact ⊢
        rw [hsame] at hact hq
        exact ⟨hact, hq⟩
      · exact ⟨hactive, hcoded⟩
    · intro hq
      rcases hmove with hsame | ⟨-, -, hcoded⟩
      · rwa [hsame] at hq
      · omega

end Sys2Proof.Machine
end

section
/-! SUPPORT. The invariant of the grid (R35): what writes it stays inside, and writes no `Unset`. -/
namespace Sys2Proof.Machine

/-! The writes of function modules lie inside the grid. -/

theorem finderWrites_inside {size : Nat} (h : 21 ≤ size) : ∀ w ∈ finderWrites size, w.1 < size ∧ w.2.1 < size := by
  intro w hw
  simp only [finderWrites, List.mem_append, mem_areaWrites] at hw
  rcases hw with ((((h1 | h1) | h1) | h1) | h1) | h1
  all_goals
    obtain ⟨dr, hdr, dc, hdc, rfl⟩ := h1
    dsimp only
    omega

theorem timingWrites_inside (size : Nat) : ∀ w ∈ timingWrites size, w.1 < size ∧ w.2.1 < size := by
  rintro ⟨r, c, d⟩ hw
  rcases mem_timingWrites.mp hw with ⟨rfl, h8, h9, -⟩ | ⟨rfl, h8, h9, -⟩ <;> dsimp only <;> omega

/-- The coordinates of a well-formed list end at `SIZE - 7` (R89). -/
theorem mem_alignList_le {v : Nat} {a : List Nat} (h : alignListWf v a = true) {x : Nat} (hx : x ∈ a) :
    x ≤ 4 * v + 10 := by
  have hpair := (alignListWf_steps h).2
  unfold alignListWf at h
  split at h
  · rw [of_decide_eq_true h] at hx; cases hx
  · simp only [Bool.and_eq_true, decide_eq_true_eq] at h
    obtain ⟨⟨-, hlast⟩, -⟩ := h
    obtain ⟨l, rfl⟩ := List.getLast?_eq_some_iff.mp hlast
    rcases List.mem_append.mp hx with hmem | hmem
    · have := (List.pairwise_append.mp hpair).2.2 x hmem (4 * v + 10) (List.mem_singleton_self _)
      omega
    · exact (List.mem_singleton.mp hmem).le

theorem alignWrites_inside {v : Nat} {a : List Nat} (h : alignListWf v a = true) :
    ∀ w ∈ alignWrites (17 + 4 * v) a, w.1 < 17 + 4 * v ∧ w.2.1 < 17 + 4 * v := by
  rintro ⟨r, c, d⟩ hw
  obtain ⟨cr, hcr, cc, hcc, -, hr, hc, -⟩ := (mem_alignWrites h).mp hw
  have := mem_alignList_le h hcr
  have := mem_alignList_le h hcc
  unfold absDiff at hr hc
  dsimp only
  omega

theorem verWrites_inside {size : Nat} (h : 21 ≤ size) (w : BitVec 18) :
    ∀ x ∈ verWrites size w, x.1 < size ∧ x.2.1 < size := by
  rintro ⟨r, c, d⟩ hw
  obtain ⟨i, hi, hcell, -⟩ := mem_verWrites.mp hw
  simp only [versionCells, List.mem_cons, List.not_mem_nil, or_false, Prod.mk.injEq] at hcell
  dsimp only
  omega

theorem reserveWrites_inside {ver size : Nat} (h : 21 ≤ size) :
    ∀ w ∈ reserveWrites ver size, w.1 < size ∧ w.2.1 < size := by
  intro w hw
  rw [reserveWrites, List.mem_append, List.mem_append, List.mem_singleton] at hw
  rcases hw with (hfmt | rfl) | hver
  · exact fmtWrites_inside h 0 w hfmt
  · dsimp only; omega
  · split at hver
    · exact verWrites_inside h 0 w hver
    · cases hver

/-! Writing no `Unset`. -/

/-- No module becomes `Unset`. -/
def KeepsSet (g g' : List (List Module)) : Prop := ∀ r c, gridAt g' r c = .unset → gridAt g r c = .unset

theorem KeepsSet.trans {g g' g'' : List (List Module)} (h : KeepsSet g g') (h' : KeepsSet g' g'') : KeepsSet g g'' :=
  fun r c hu => h r c (h' r c hu)

theorem keepsSet_setFuncs (ws : List FuncWrite) (g : List (List Module)) : KeepsSet g (setFuncs ws g) := by
  intro r c h
  rw [gridAt_setFuncs] at h
  cases hw : lastWrite ws r c with
  | none => rwa [hw] at h
  | some d => rw [hw] at h; cases h

theorem keepsSet_flipGrid {n m : Nat} {g : List (List Module)} (hg : Square n g) : KeepsSet g (flipGrid n m g) := by
  intro r c h
  rw [gridAt_flipGrid hg] at h
  split at h
  · cases hmod : gridAt g r c with
    | unset => rfl
    | function d => rw [hmod] at h; cases h
    | data d => rw [hmod] at h; cases h
  · exact h

theorem noUnset_of_keepsSet {s t : State} (hsize : t.size = s.size) (h : KeepsSet s.grid t.grid)
    (hs : s.noUnset = true) : t.noUnset = true := by
  rw [noUnset_eq_true_iff] at hs ⊢
  intro r hr c hc hu
  exact hs r (hsize ▸ hr) c (hsize ▸ hc) (h r c hu)

/-! The commands. -/

/-- A square grid from `MATRIX` on is what the invariant asks, and from `PLACED` on one without `Unset`. -/
theorem GridCoherent.of_square {t : State} (hp : Phase.matrix.code ≤ t.phase.code) (hsq : Square t.size t.grid)
    (hset : Phase.placed.code ≤ t.phase.code → t.noUnset = true) : GridCoherent t :=
  ⟨fun h => absurd h (Nat.not_lt.mpr hp), fun _ _ => hsq, fun _ => hset⟩

/-- Function modules written inside the grid of `MATRIX`. -/
theorem gridCoherent_writeFuncs {s t : State} {ws : List FuncWrite} (hs : s.phase = .matrix) (hsq : Square s.size s.grid)
    (hws : ∀ w ∈ ws, w.1 < s.size ∧ w.2.1 < s.size) {b : BitVec 4} (ht : t = setFn b (writeFuncs ws s)) :
    GridCoherent t := by
  have hphase : t.phase = .matrix := by rw [ht]; exact hs
  refine .of_square (by rw [hphase]) ?_ fun h => absurd (hphase ▸ h) (by decide)
  rw [ht]
  exact square_setFuncs hsq hws

/-- A later grid made from the grid of a symbol with all its modules set. -/
theorem gridCoherent_of_placed {s t : State} (hsize : t.size = s.size) (hp : Phase.placed.code ≤ t.phase.code)
    (hset : s.noUnset = true) (hsq' : Square s.size t.grid) (hkeeps : KeepsSet s.grid t.grid) : GridCoherent t :=
  .of_square (Nat.le_trans (by decide) hp) (hsize ▸ hsq') fun _ => noUnset_of_keepsSet hsize hkeeps hset

theorem gridCoherent_mkApplyBody (m : Byte) {s : State} (hs : s.phase = .placed) (hsq : Square s.size s.grid)
    (hset : s.noUnset = true) : Ensures (mkApplyBody m s) GridCoherent := by
  have hflip : ∀ t : State, t.size = s.size → t.phase = s.phase → t.grid = flipGrid s.size m.toNat s.grid →
      GridCoherent t := fun t hsize hphase hgrid =>
    gridCoherent_of_placed hsize (by rw [hphase, hs]) hset (hgrid ▸ square_flipGrid hsq) (hgrid ▸ keepsSet_flipGrid hsq)
  refine .bind fun _ _ => ?_
  split
  · exact .ok (hflip _ rfl rfl rfl)
  · split
    · exact .ok (hflip _ rfl rfl rfl)
    · exact .error

section
variable {s : State} (hsize : 21 ≤ s.size) (hsq : Square s.size s.grid) (hset : s.noUnset = true)
include hsize hsq hset

theorem gridCoherent_mkSelectBody : Ensures (mkSelectBody s) GridCoherent := by
  intro t ht
  by_cases ha : s.applied = none
  · obtain ⟨b, -, hbody⟩ := mkSelectBody_of_none ha hsize hsq
    obtain rfl := Except.ok.inj (hbody.symm.trans ht)
    have hgrid := withMask_grid b s
    refine gridCoherent_of_placed (s := s) rfl (by rw [withMask_phase]; decide) hset ?_ ?_
    · rw [hgrid]; exact square_writeFmt hsize _ (square_flipGrid hsq)
    · rw [hgrid]; exact (keepsSet_flipGrid hsq).trans (keepsSet_setFuncs _ _)
  · cases (mkSelectBody_of_applied ha).symm.trans ht

theorem gridCoherent_mdFmtBody (m : Byte) (hs : s.phase = .placed) : Ensures (mdFmtBody m s) GridCoherent := by
  intro t ht
  by_cases hm : m.toNat ≤ 7
  · obtain rfl := Except.ok.inj ((mdFmtBody_of_mask s hm).symm.trans ht)
    refine gridCoherent_of_placed (writeFuncs_size _ s) (by rw [writeFuncs_phase, hs]) hset ?_ ?_ <;> rw [writeFuncs_grid]
    · exact square_writeFmt hsize _ hsq
    · exact keepsSet_setFuncs _ _
  · cases (mdFmtBody_of_bad_mask s (Nat.lt_of_not_le hm)).symm.trans ht

theorem gridCoherent_mdVerBody : Ensures (mdVerBody s) GridCoherent := by
  have hver : Square s.size (writeVer s.ver.toNat s.size s.grid) ∧ KeepsSet s.grid (writeVer s.ver.toNat s.size s.grid) := by
    unfold writeVer
    split
    · exact ⟨square_setFuncs hsq (verWrites_inside hsize _), keepsSet_setFuncs _ _⟩
    · exact ⟨hsq, fun _ _ h => h⟩
  exact .ok (gridCoherent_of_placed (s := s) rfl (show Phase.placed.code ≤ Phase.done.code by decide) hset hver.1 hver.2)

end

end Sys2Proof.Machine
end

section
/-! SUPPORT. The invariants of the placer (R37, R38, R301, R390) and of the masks (R39), and what `PL_BIT` and `PL_RUN`
keep. -/
namespace Sys2Proof.Machine

/-! The position. -/

/-- The placer's position: a row of the grid, and the right column of one of the pairs (R37, R301). -/
structure PlacerPosition (s : State) : Prop where
  row : s.plRow.toNat < s.size
  pos : 1 ≤ s.plColpair.toNat
  pair : s.plColpair.toNat < s.size
  odd : s.plColpair.toNat < 6 → s.plColpair.toNat % 2 = 1
  even : 6 ≤ s.plColpair.toNat → 8 ≤ s.plColpair.toNat ∧ s.plColpair.toNat % 2 = 0

theorem PlacerPosition.inGrid {s : State} (h : PlacerPosition s) : s.PositionInGrid := ⟨h.row, h.pair⟩

/-- A position with another row of the grid, in the same pair. -/
theorem PlacerPosition.of_pair {s t : State} (h : PlacerPosition s) (hsize : t.size = s.size)
    (hpair : t.plColpair = s.plColpair) (hrow : t.plRow.toNat < s.size) : PlacerPosition t :=
  ⟨hsize ▸ hrow, hpair ▸ h.pos, by rw [hsize, hpair]; exact h.pair, hpair ▸ h.odd, hpair ▸ h.even⟩

/-- The pair after a pair that is not the last is a pair: 8 is followed by 5, every other by the one two columns on. -/
theorem PlacerPosition.of_nextPair {s t : State} (h : PlacerPosition s) (h1 : s.plColpair ≠ 1) (hsize : t.size = s.size)
    (hrow : t.plRow = s.plRow) (hpair : t.plColpair = BitVec.ofNat 8 (nextPair s.plColpair.toNat)) :
    PlacerPosition t := by
  have hne : s.plColpair.toNat ≠ 1 := fun h => h1 (BitVec.eq_of_toNat_eq h)
  obtain ⟨hrow', hpos, hlt, hodd, heven⟩ := h
  have hnext : nextPair s.plColpair.toNat = if s.plColpair.toNat = 8 then 5 else s.plColpair.toNat - 2 := rfl
  have hnum : t.plColpair.toNat = nextPair s.plColpair.toNat := by
    have := s.plColpair.isLt
    have := nextPair_le s.plColpair.toNat
    rw [hpair, BitVec.toNat_ofNat, Nat.mod_eq_of_lt (by omega)]
  split at hnext <;> exact
    ⟨by rwa [hsize, hrow], by omega, by omega, fun _ => by omega, fun _ => by omega⟩

theorem placerPosition_plNext {s : State} (h : PlacerPosition s) : PlacerPosition (plNext s) := by
  have hrow := (positionInGrid_plNext h.inGrid).1
  rw [plNext_size] at hrow
  have hsize := plNext_size s
  unfold plNext at hrow hsize ⊢
  split
  · exact h
  split
  · exact h.of_pair rfl rfl h.row
  split
  · next hup => exact h.of_pair rfl rfl (toNat_ofNat_lt (Nat.lt_of_le_of_lt (Nat.sub_le ..) h.row))
  split
  · next hdown => exact h.of_pair rfl rfl (toNat_ofNat_lt hdown.2)
  split
  · exact h.of_pair rfl rfl h.row
  · next h1 => exact h.of_nextPair h1 rfl rfl rfl

theorem PlacerPosition.of_update {s t : State} (h : PlacerPosition s) (hsize : t.size = s.size)
    (hrow : t.plRow = s.plRow) (hpair : t.plColpair = s.plColpair) : PlacerPosition t :=
  h.of_pair hsize hpair (hrow ▸ h.row)

/-! One `pl_bit()`, and the loop. -/

/-- What the placer's commands keep in `PLACING`, and what they promise of `PLACED`. -/
structure Placing (t : State) : Prop where
  phase : t.phase = .placing ∨ t.phase = .placed
  position : PlacerPosition t
  square : Square t.size t.grid
  bits : t.phase = .placing → t.bitpos.toNat < t.slen
  full : t.phase = .placed → t.noUnset = true

theorem Placing.withBit_square {u : State} (h : Placing u) : Square u.size u.withBit.grid :=
  square_gridSet _ h.square h.position.row (plCol_lt h.position.inGrid)

theorem Placing.plPlace {u : State} (h : Placing u) (hs : u.phase = .placing) : Ensures (plPlace u) Placing := by
  have hpos : PlacerPosition (plNext u.withBit) :=
    placerPosition_plNext (h.position.of_update (t := u.withBit) rfl rfl rfl)
  have hsize : (plNext u.withBit).size = u.size := plNext_size u.withBit
  have hsq : Square (plNext u.withBit).size (plNext u.withBit).grid := by
    rw [hsize, plNext_grid]; exact h.withBit_square
  by_cases hlast : u.withBit.bitpos.toNat = u.slen
  · rw [plPlace_of_last hlast]
    split
    · next hset =>
      refine .ok ⟨.inr rfl, hpos.of_update rfl rfl rfl, hsq, fun h => (nomatch h), fun _ => ?_⟩
      rw [noUnset_eq_true_iff]
      intro r hr c hc
      have := hset r (hsize ▸ hr) c (hsize ▸ hc)
      rwa [← plNext_moduleAt] at this
    · exact .error
  · rw [plPlace_of_not_last hlast]
    have hphase : (plNext u.withBit).phase = .placing := (plNext_phase _).trans hs
    refine .ok ⟨.inl hphase, hpos, hsq, fun _ => ?_, fun h => by rw [hphase] at h; cases h⟩
    have hlt := h.bits hs
    have hle : u.withBit.bitpos.toNat ≤ u.bitpos.toNat + 1 := by
      show (BitVec.ofNat 15 (u.bitpos.toNat + 1)).toNat ≤ _
      rw [BitVec.toNat_ofNat]
      exact Nat.mod_le ..
    rw [plNext_bitpos, plNext_slen]
    show u.withBit.bitpos.toNat < u.slen
    omega

/-- Skipping keeps what the placer keeps. -/
theorem Placing.plSkip {s : State} (h : Placing s) (fuel : Nat) : Placing (plSkip fuel s) := by
  have hpos := plSkip_keeps (P := PlacerPosition) (fun _ => placerPosition_plNext) fuel h.position
  obtain ⟨_, _, _, _, _, hskip⟩ := plSkip_positionOnly fuel s
  rw [hskip] at hpos ⊢
  exact ⟨h.phase, hpos, h.square, h.bits, h.full⟩

theorem Placing.plBitBody {s : State} (h : Placing s) (hs : s.phase = .placing) : Ensures (plBitBody s) Placing :=
  .bind fun _ _ => (h.plSkip _).plPlace ((plSkip_phase ..).trans hs)

theorem Placing.plRunLoop {s : State} (h : Placing s) (fuel : Nat) : Ensures (plRunLoop fuel s) Placing := by
  induction fuel generalizing s with
  | zero =>
    unfold Machine.plRunLoop
    split
    · exact .error
    · exact .ok h
  | succ fuel ih =>
    unfold Machine.plRunLoop
    split
    · next hs => exact .bind fun u hu => ih (h.plBitBody hs u hu)
    · exact .ok h

/-- The last row and the last pair are a position. -/
theorem placerPosition_start {t : State} (hsize : 21 ≤ t.size ∧ t.size % 2 = 1) (hrow : t.plRow.toNat = t.size - 1)
    (hpair : t.plColpair.toNat = t.size - 1) : PlacerPosition t :=
  ⟨by omega, by omega, by omega, fun _ => by omega, fun _ => by omega⟩

/-- `PL_START` puts the placer at the last row and the last pair (R303). -/
theorem placing_plStartBody {s : State} (h1 : 1 ≤ s.ver.toNat) (h40 : s.ver.toNat ≤ 40) (hx : VSpecFacts s.vspec)
    (hsq : Square s.size s.grid) : Ensures (plStartBody s) Placing := by
  have hsize := size_eq h1
  have hnum := toNat_ofNat_size_sub_one h40
  have htotal : 1 ≤ s.vspec.total := by
    have h1 := Nat.mul_le_mul hx.n1 (Nat.le_trans hx.d1 (Nat.le_add_right _ s.vspec.r))
    rw [← hx.total]
    omega
  have hslen : 0 < s.slen := by unfold State.slen; omega
  have hodd : 21 ≤ s.size ∧ s.size % 2 = 1 := by omega
  exact .bind fun _ _ => .ok
    ⟨.inl rfl, placerPosition_start hodd hnum hnum, hsq, fun _ => hslen, fun h => (nomatch h)⟩

theorem Placing.gridCoherent {t : State} (h : Placing t) : GridCoherent t := by
  refine .of_square ?_ h.square fun hp => ?_
  · rcases h.phase with hs | hs <;> rw [hs] <;> decide
  · rcases h.phase with hs | hs
    · rw [hs] at hp; exact absurd hp (by decide)
    · exact h.full hs

theorem Placing.placerCoherent {t : State} (h : Placing t) : PlacerCoherent t := by
  refine ⟨fun _ => ⟨h.position.row, h.position.pos, h.position.pair, h.position.odd, h.position.even⟩, fun hp => ?_, h.bits⟩
  rcases h.phase with hs | hs <;> rw [hs] at hp <;> exact absurd hp (by decide)

/-- A coherent state in `PLACING`. -/
theorem placing_of_coherent {s : State} (hs : s.phase = .placing) (hgrid : GridCoherent s) (hplacer : PlacerCoherent s) :
    Placing s := by
  obtain ⟨hposition, -, hbits⟩ := hplacer
  obtain ⟨hrow, hpos, hpair, hodd, heven⟩ := hposition hs
  have hact : s.active := by unfold State.active; rw [hs]; decide
  exact ⟨.inl hs, ⟨hrow, hpos, hpair, hodd, heven⟩, hgrid.2.1 hact (by rw [hs]; decide), hbits,
    fun h => by rw [hs] at h; cases h⟩

end Sys2Proof.Machine
end

section
/-! SUPPORT. The invariants of grid, placer and masks over all commands, and `CoherentInvariant`. -/
namespace Sys2Proof.Machine

/-! The grid. -/

/-- The commands that write the grid (R35). -/
def gridCommands : List String := ["MX_INIT", "MX_FINDER", "MX_TIMING", "MX_ALIGN", "MX_RESERVE", "MX_FUNC", "PL_BIT",
  "PL_RUN", "MK_APPLY", "MK_SELECT", "MD_FMT", "MD_VER"]

/-- What a coherent state has from `MATRIX` on. -/
structure LateGrid (s : State) : Prop where
  ver : 1 ≤ s.ver.toNat ∧ s.ver.toNat ≤ 40
  size : 21 ≤ s.size
  square : Square s.size s.grid
  full : Phase.placed.code ≤ s.phase.code → s.noUnset = true

theorem lateGrid {s : State} {p : Phase} (hs : s.phase = p) (hgrid : GridCoherent s) (hpacker : PackerCoherent s)
    (hp : Phase.matrix.code ≤ p.code := by decide) (hp' : p.code ≤ 11 := by decide) : LateGrid s := by
  have hact : s.active := by
    unfold State.active
    rw [hs]
    exact ⟨Nat.le_trans (by decide) hp, hp'⟩
  obtain ⟨hv, -⟩ := hpacker.streamFits hact
  exact ⟨hv, State.le_size hv.1, hgrid.2.1 hact (hs ▸ hp), hgrid.2.2 hact⟩

/-- In `MATRIX` a command that writes function modules inside the grid keeps the invariant. -/
theorem LateGrid.writeFuncs {s : State} (h : LateGrid s) (hs : s.phase = .matrix) {ws : List FuncWrite} {b : BitVec 4}
    (hws : ∀ w ∈ ws, w.1 < s.size ∧ w.2.1 < s.size) : GridCoherent (setFn b (writeFuncs ws s)) :=
  gridCoherent_writeFuncs hs h.square hws rfl

theorem LateGrid.alignWrites {s : State} (h : LateGrid s) (hp : s.params.blocksWf = true) :
    ∀ w ∈ alignWrites s.size (alignAt s.params s.ver.toNat), w.1 < s.size ∧ w.2.1 < s.size := by
  have hinside := alignWrites_inside (alignListWf_of_blocksWf hp h.ver.1 h.ver.2)
  rwa [← size_eq h.ver.1] at hinside

/-- `PL_RUN` from `MATRIX` starts the placer; from there the loop keeps what it promises (R306). -/
theorem placing_plRunBody {s : State} (hl : legalIn .plRun s.phase = true) (hp : s.params.blocksWf = true)
    (hpacker : PackerCoherent s) (hgrid : GridCoherent s) (hplacer : PlacerCoherent s) :
    Ensures (plRunBody s) Placing := by
  rcases (by simpa [legalIn] using hl : s.phase = .matrix ∨ s.phase = .placing) with hs | hs
  · have hlate := lateGrid hs hgrid hpacker
    rw [plRunBody_of_matrix hs]
    exact .bind fun u hu => (placing_plStartBody hlate.ver.1 hlate.ver.2
      (vspecFacts_of_blocksWf hp hlate.ver.1 hlate.ver.2) hlate.square u hu).plRunLoop _
  · rw [plRunBody_of_placing hs]
    exact (placing_of_coherent hs hgrid hplacer).plRunLoop _

theorem gridCoherent_writer {i : Instr} (hw : mnemonic i ∈ gridCommands) {s : State} (hl : legalIn i s.phase = true)
    (hp : s.params.blocksWf = true) (hpacker : PackerCoherent s) (hgrid : GridCoherent s) (hplacer : PlacerCoherent s) :
    Ensures (bodyOf i s) GridCoherent := by
  have hphase {p : Phase} (h : decide (s.phase = p) = true) : s.phase = p := of_decide_eq_true h
  cases i
  case mxInit => exact .ok (.of_square (Nat.le_refl _) (square_replicate _) fun h => absurd h (by exact (by decide : ¬9 ≤ 7)))
  case mxFinder =>
    have hlate := lateGrid (hphase hl) hgrid hpacker
    exact .ok (hlate.writeFuncs (hphase hl) (finderWrites_inside hlate.size))
  case mxTiming => exact .ok ((lateGrid (hphase hl) hgrid hpacker).writeFuncs (hphase hl) (timingWrites_inside _))
  case mxAlign =>
    have hlate := lateGrid (hphase hl) hgrid hpacker
    exact .ok (hlate.writeFuncs (hphase hl) (hlate.alignWrites hp))
  case mxReserve =>
    have hlate := lateGrid (hphase hl) hgrid hpacker
    exact .ok (hlate.writeFuncs (hphase hl) (reserveWrites_inside hlate.size))
  case mxFunc =>
    have hlate := lateGrid (hphase hl) hgrid hpacker
    refine .ok (mxFuncOp_eq s ▸ hlate.writeFuncs (hphase hl) fun w hw => ?_)
    rw [List.mem_append, List.mem_append, List.mem_append] at hw
    rcases hw with ((hfinder | htiming) | halign) | hreserve
    · exact finderWrites_inside hlate.size w hfinder
    · exact timingWrites_inside _ w htiming
    · exact hlate.alignWrites hp w halign
    · exact reserveWrites_inside hlate.size w hreserve
  case plBit =>
    exact ((placing_of_coherent (hphase hl) hgrid hplacer).plBitBody (hphase hl)).mono fun _ => Placing.gridCoherent
  case plRun => exact (placing_plRunBody hl hp hpacker hgrid hplacer).mono fun _ => Placing.gridCoherent
  case mkApply m =>
    have hlate := lateGrid (hphase hl) hgrid hpacker
    exact gridCoherent_mkApplyBody m (hphase hl) hlate.square (hlate.full (by rw [hphase hl]))
  case mkSelect =>
    have hlate := lateGrid (hphase hl) hgrid hpacker
    exact gridCoherent_mkSelectBody hlate.size hlate.square (hlate.full (by rw [hphase hl]))
  case mdFmt m =>
    have hlate := lateGrid (hphase hl) hgrid hpacker
    exact gridCoherent_mdFmtBody hlate.size hlate.square (hlate.full (by rw [hphase hl])) m (hphase hl)
  case mdVer =>
    have hlate := lateGrid (hphase hl) hgrid hpacker
    exact gridCoherent_mdVerBody hlate.size hlate.square (hlate.full (by rw [hphase hl]; decide))
  all_goals exact absurd hw (by simp [mnemonic, gridCommands])

/-- What does not write the grid keeps the invariant: the phase stays before `MATRIX`, or it stays as it is, or it goes
on from `MATRIX` to `PLACING`. -/
theorem GridCoherent.of_same {s t : State} (hs : GridCoherent s) (hgrid : t.grid = s.grid)
    (hphase : (s.phase.code < Phase.matrix.code ∧ t.phase.code < Phase.matrix.code) ∨
      (t.size = s.size ∧ (t.phase = s.phase ∨ (s.phase = .matrix ∧ t.phase = .placing)))) : GridCoherent t := by
  rcases hphase with ⟨hp, hq⟩ | ⟨hsize, hphase | ⟨hp, hq⟩⟩
  · exact ⟨fun _ => hgrid ▸ hs.1 hp, fun _ h => absurd hq (Nat.not_lt.mpr h),
      fun _ h => absurd hq (Nat.not_lt.mpr (Nat.le_trans (by decide) h))⟩
  · unfold GridCoherent State.active State.noUnset State.moduleAt at hs ⊢
    rwa [hgrid, hsize, hphase]
  · have hact : s.active := by unfold State.active; rw [hp]; decide
    refine .of_square (by rw [hq]; decide) ?_ fun h => absurd (hq ▸ h) (by decide)
    rw [hgrid, hsize]
    exact hs.2.1 hact (by rw [hp])

theorem phaseMove_grid {i : Instr} {p q : Phase} (h : PhaseMove i p q) (hw : mnemonic i ∉ gridCommands) :
    (p.code < Phase.matrix.code ∧ q.code < Phase.matrix.code) ∨
      (mnemonic i ∉ ["CFG_SYM"] ∧ (q = p ∨ (p = .matrix ∧ q = .placing))) := by
  cases h
  case stay hn =>
    refine .inr ⟨fun hcfg => ?_, .inl rfl⟩
    cases i
    case cfgSym => cases hn
    all_goals exact absurd hcfg (by simp [mnemonic])
  case cfgSym | bsHead | bsTerm | bsAlign | bsPad | bsFinish | eccRun => exact .inl (by decide)
  case plStart => exact .inr ⟨by simp [mnemonic], .inr ⟨rfl, rfl⟩⟩
  all_goals exact absurd (by simp [mnemonic, gridCommands]) hw

theorem gridCoherent_bodyOf {i : Instr} {s t : State} (hi : i ≠ .sreset) (hl : legalIn i s.phase = true)
    (hb : bodyOf i s = .ok t) (hp : s.params.blocksWf = true) (hpacker : PackerCoherent s) (hgrid : GridCoherent s)
    (hplacer : PlacerCoherent s) : GridCoherent t := by
  by_cases hw : mnemonic i ∈ gridCommands
  · exact gridCoherent_writer hw hl hp hpacker hgrid hplacer t hb
  · have hwritten := bodyOf_writes hi s t hb
    refine hgrid.of_same (by rw [hwritten]; exact withWritten_grid hw s t) ?_
    refine (phaseMove_grid (phaseMove_of_body hi hl hb) hw).imp_right fun ⟨hcfg, hmove⟩ => ⟨?_, hmove⟩
    rw [hwritten]
    exact (withWritten_derived hcfg s t).2.1

/-! The placer. -/

/-- The commands that move the placer (R37). -/
def placerCommands : List String := ["PL_START", "PL_NEXT", "PL_BIT", "PL_RUN"]

theorem placerCoherent_plNextBody {s : State} (h : Placing s) (hs : s.phase = .placing) :
    Ensures (plNextBody s) PlacerCoherent := by
  have hpos := placerPosition_plNext h.position
  refine .bind fun _ _ => .ok ⟨fun _ => ⟨hpos.row, hpos.pos, hpos.pair, hpos.odd, hpos.even⟩, fun hp => ?_, fun _ => ?_⟩
  · rw [plNext_phase, hs] at hp
    exact absurd hp (by decide)
  · rw [plNext_bitpos, plNext_slen]
    exact h.bits hs

theorem placerCoherent_mover {i : Instr} (hw : mnemonic i ∈ placerCommands) {s : State} (hl : legalIn i s.phase = true)
    (hp : s.params.blocksWf = true) (hpacker : PackerCoherent s) (hgrid : GridCoherent s) (hplacer : PlacerCoherent s) :
    Ensures (bodyOf i s) PlacerCoherent := by
  have hphase {p : Phase} (h : decide (s.phase = p) = true) : s.phase = p := of_decide_eq_true h
  cases i
  case plStart =>
    have hlate := lateGrid (hphase hl) hgrid hpacker
    exact (placing_plStartBody hlate.ver.1 hlate.ver.2 (vspecFacts_of_blocksWf hp hlate.ver.1 hlate.ver.2)
      hlate.square).mono fun _ => Placing.placerCoherent
  case plNext => exact placerCoherent_plNextBody (placing_of_coherent (hphase hl) hgrid hplacer) (hphase hl)
  case plBit =>
    exact ((placing_of_coherent (hphase hl) hgrid hplacer).plBitBody (hphase hl)).mono fun _ => Placing.placerCoherent
  case plRun => exact (placing_plRunBody hl hp hpacker hgrid hplacer).mono fun _ => Placing.placerCoherent
  all_goals exact absurd hw (by simp [mnemonic, placerCommands])

/-- What does not move the placer keeps the invariant: the phase stays before `PLACING`, or it is past it, or it stays as
it is. -/
theorem PlacerCoherent.of_same {s t : State} (hs : PlacerCoherent s)
    (hpos : t.plRow = s.plRow ∧ t.plColpair = s.plColpair) (hbit : t.bitpos = s.bitpos)
    (hphase : (s.phase.code < Phase.placing.code ∧ t.phase.code < Phase.placing.code) ∨
      Phase.placing.code < t.phase.code ∨ (t.size = s.size ∧ t.slen = s.slen ∧ t.phase = s.phase)) :
    PlacerCoherent t := by
  rcases hphase with ⟨hp, hq⟩ | hq | ⟨hsize, hslen, hphase⟩
  · have hne : t.phase ≠ .placing := fun h => by rw [h] at hq; exact absurd hq (by decide)
    exact ⟨fun h => absurd h hne, fun _ => hbit ▸ hs.2.1 hp, fun h => absurd h hne⟩
  · have hne : t.phase ≠ .placing := fun h => by rw [h] at hq; exact absurd hq (by decide)
    exact ⟨fun h => absurd h hne, fun h => absurd h (Nat.not_lt.mpr hq.le), fun h => absurd h hne⟩
  · unfold PlacerCoherent at hs ⊢
    rwa [hpos.1, hpos.2, hbit, hsize, hslen, hphase]

theorem phaseMove_placer {i : Instr} {p q : Phase} (h : PhaseMove i p q) (hw : mnemonic i ∉ placerCommands) :
    (p.code < Phase.placing.code ∧ q.code < Phase.placing.code) ∨ Phase.placing.code < q.code ∨
      (mnemonic i ∉ ["CFG_SYM"] ∧ q = p) := by
  cases h
  case stay hn =>
    refine .inr (.inr ⟨fun hcfg => ?_, rfl⟩)
    cases i
    case cfgSym => cases hn
    all_goals exact absurd hcfg (by simp [mnemonic])
  case cfgSym | bsHead | bsTerm | bsAlign | bsPad | bsFinish | eccRun | mxInit => exact .inl (by decide)
  case mkSelect | mdVer => exact .inr (.inl (by decide))
  all_goals exact absurd (by simp [mnemonic, placerCommands]) hw

theorem placerCoherent_bodyOf {i : Instr} {s t : State} (hi : i ≠ .sreset) (hl : legalIn i s.phase = true)
    (hb : bodyOf i s = .ok t) (hp : s.params.blocksWf = true) (hpacker : PackerCoherent s) (hgrid : GridCoherent s)
    (hplacer : PlacerCoherent s) : PlacerCoherent t := by
  by_cases hw : mnemonic i ∈ placerCommands
  · exact placerCoherent_mover hw hl hp hpacker hgrid hplacer t hb
  · have hwritten := bodyOf_writes hi s t hb
    obtain ⟨hrow, hpair, -⟩ := withWritten_position hw s t
    have hbit : t.bitpos = s.bitpos := by
      rw [hwritten]
      exact withWritten_bitpos (fun h => hw ((by decide : ["PL_START", "PL_BIT", "PL_RUN"] ⊆ placerCommands) h)) s t
    refine hplacer.of_same (by rw [hwritten]; exact ⟨hrow, hpair⟩) hbit ?_
    refine (phaseMove_placer (phaseMove_of_body hi hl hb) hw).imp_right (Or.imp_right fun ⟨hcfg, hmove⟩ => ?_)
    obtain ⟨-, hsize, -, hslen⟩ := withWritten_derived hcfg s t
    rw [← hwritten] at hsize hslen
    exact ⟨hsize, hslen, hmove⟩

/-! The masks. -/

theorem maskCoherent_mkSelectBody (s : State) : Ensures (mkSelectBody s) MaskCoherent :=
  .bind fun _ _ => .ok ⟨fun h => absurd h (show ¬10 < 9 by decide), fun _ => rfl⟩

theorem phaseMove_mask {i : Instr} {p q : Phase} (h : PhaseMove i p q) (hw : mnemonic i ∉ ["MK_APPLY", "MK_SELECT"]) :
    q = p ∨ (p.code < Phase.placed.code ∧ q.code < Phase.placed.code) ∨ q = .placed ∨ (p = .selected ∧ q = .done) := by
  cases h
  case stay => exact .inl rfl
  case mkSelect => exact absurd (by simp [mnemonic]) hw
  case mdVer => exact .inr (.inr (.inr ⟨rfl, rfl⟩))
  case plBit | plRunMatrix | plRun => exact .inr (.inr (.inl rfl))
  all_goals exact .inr (.inl (by decide))

/-- What leaves the masks alone keeps the invariant along the pipeline. -/
theorem MaskCoherent.of_same {s t : State} (hs : MaskCoherent s) (happlied : t.applied = s.applied)
    (hbest : t.bestmask = s.bestmask)
    (hphase : t.phase = s.phase ∨ (s.phase.code < Phase.placed.code ∧ t.phase.code < Phase.placed.code) ∨
      t.phase = .placed ∨ (s.phase = .selected ∧ t.phase = .done)) : MaskCoherent t := by
  unfold MaskCoherent at hs ⊢
  rw [happlied, hbest]
  rcases hphase with hsame | ⟨hp, hq⟩ | hq | ⟨hp, hq⟩
  · rwa [hsame]
  · refine ⟨fun _ => hs.1 hp, fun h => ?_⟩
    rcases h with h | h <;> rw [h] at hq <;> exact absurd hq (by decide)
  · rw [hq]
    exact ⟨fun h => absurd h (by decide), fun h => by simp at h⟩
  · rw [hq]
    exact ⟨fun h => absurd h (by decide), fun _ => hs.2 (.inl hp)⟩

theorem maskCoherent_bodyOf {i : Instr} {s t : State} (hi : i ≠ .sreset) (hl : legalIn i s.phase = true)
    (hb : bodyOf i s = .ok t) (hs : MaskCoherent s) : MaskCoherent t := by
  by_cases hw : mnemonic i ∈ ["MK_APPLY", "MK_SELECT"]
  · cases i
    case mkApply m =>
      have hphase : t.phase = .placed := (mkApplyBody_phase m s t hb).trans (of_decide_eq_true hl)
      unfold MaskCoherent
      rw [hphase]
      exact ⟨fun h => absurd h (by decide), fun h => by simp at h⟩
    case mkSelect => exact maskCoherent_mkSelectBody s t hb
    all_goals exact absurd hw (by simp [mnemonic])
  · have hwritten := bodyOf_writes hi s t hb
    refine hs.of_same ?_ ?_ (phaseMove_mask (phaseMove_of_body hi hl hb) hw)
    · rw [hwritten]; exact withWritten_applied hw s t
    · rw [hwritten]
      exact (withWritten_selection (fun h => hw (List.mem_cons_of_mem _ h)) s t).1

/-! All together. -/

theorem coherent_bodyOf {i : Instr} {s t : State} (hi : i ≠ .sreset) (hp : s.phase ≠ .error)
    (hl : legalIn i s.phase = true) (hb : bodyOf i s = .ok t) (hs : Coherent s) : Coherent t where
  params := by
    rw [bodyOf_writes hi s t hb, (withWritten_host i s t).1]
    exact hs.params
  err := errCoherent_of_body hi hp hl hb hs.err
  rs := rsCoherent_bodyOf hi hb hs.rs
  syn := synCoherent_bodyOf hi hb hs.syn
  packer := packerCoherent_bodyOf hi hl hb hs.params hs.packer
  code := codeCoherent_bodyOf hi hl hb hs.params hs.packer hs.code
  grid := gridCoherent_bodyOf hi hl hb hs.params hs.packer hs.grid hs.placer
  placer := placerCoherent_bodyOf hi hl hb hs.params hs.packer hs.grid hs.placer
  mask := maskCoherent_bodyOf hi hl hb hs.mask

/-- After a reset every invariant holds; that of the tables is as before. -/
theorem coherent_resetState {s : State} (hp : s.params.blocksWf = true) : Coherent (resetState s) where
  params := hp
  err := errCoherent_resetState s
  rs := rsCoherent_resetState s
  syn := ⟨Nat.zero_le _, fun h => absurd rfl h⟩
  packer := ⟨Nat.zero_le _, rfl, fun _ => ⟨rfl, rfl⟩, fun h => absurd h.1 (by exact (by decide : ¬1 ≤ 0)), nofun,
    fun h => absurd h.1 (by exact (by decide : ¬1 ≤ 0))⟩
  code := ⟨fun _ => ⟨rfl, rfl, rfl⟩, fun h => absurd h.1 (by exact (by decide : ¬1 ≤ 0))⟩
  grid := ⟨fun _ => rfl, fun h => absurd h.1 (by exact (by decide : ¬1 ≤ 0)),
    fun h => absurd h.1 (by exact (by decide : ¬1 ≤ 0))⟩
  placer := ⟨nofun, fun _ => rfl, nofun⟩
  mask := ⟨fun _ => rfl, fun h => by rcases h with h | h <;> cases h⟩

/-- A raise leaves everything but the error registers and the phase; what the invariants ask in the other phases they do
not ask in `ERROR`. -/
theorem coherent_raise {s : State} {e : ErrCode} (w : Word) (he : e ≠ .none) (hs : Coherent s) :
    Coherent (raise e w s) where
  params := hs.params
  err := errCoherent_raise he w s
  rs := hs.rs
  syn := hs.syn
  packer := ⟨hs.packer.1, hs.packer.2.1, nofun, fun h => absurd h.2 (by exact (by decide : ¬15 ≤ 11)), nofun,
    fun h => absurd h.2 (by exact (by decide : ¬15 ≤ 11))⟩
  code := ⟨fun h => absurd h (by exact (by decide : ¬15 < 6)), fun h => absurd h.2 (by exact (by decide : ¬15 ≤ 11))⟩
  grid := ⟨fun h => absurd h (by exact (by decide : ¬15 < 7)), fun h => absurd h.2 (by exact (by decide : ¬15 ≤ 11)),
    fun h => absurd h.2 (by exact (by decide : ¬15 ≤ 11))⟩
  placer := ⟨nofun, fun h => absurd h (by exact (by decide : ¬15 < 8)), nofun⟩
  mask := ⟨fun h => absurd h (by exact (by decide : ¬15 < 9)), fun h => by rcases h with h | h <;> cases h⟩

theorem coherent_hostOnly {s t : State} : HostOnly s t → Coherent s → Coherent t := by
  rintro ⟨_, _, rfl⟩ hs
  exact ⟨hs.params, hs.err, hs.rs, hs.syn, hs.packer, hs.code, hs.grid, hs.placer, hs.mask⟩

/-- Settles O18: the host's side shows in no invariant, a reset and a raise meet them all, and every body keeps each. -/
theorem coherentInvariant : Obligations.CoherentInvariant := fun _ _ hs h =>
  step_keeps (fun _ _ => coherent_hostOnly) (fun _ hs => coherent_resetState hs.params)
    (fun _ _ w he _ hs => coherent_raise w he hs) (fun _ _ _ hi hp hl => coherent_bodyOf hi hp hl) hs h

/-- Settles O19: the reset state is what the reset leaves, with the default tables. -/
theorem coherentReset : Obligations.CoherentReset := coherent_resetState (s := State.reset) params_default_blocksWf

end Sys2Proof.Machine
end
